-- ==== Sys2Proof/Word.lean ====
section
/-!
DEFINITION. The two word types (00_scope.md R5): a byte of a register or of memory, and a 16-bit
value of `pc`, `sp`, a register pair or a program address.
-/

namespace Sys2Proof

/-- A byte: 8 bits (R5). -/
abbrev Byte := BitVec 8

/-- A 16-bit value: `pc`, `sp`, a register pair, a program address (R5). -/
abbrev Word := BitVec 16

end Sys2Proof
end

