-- ==== Sys2Proof/Syntax.lean ====
section
/-!
DEFINITION. The instructions as syntax: one constructor per mnemonic of spec/opcode_table.json
(30_encoding.md R90), with the immediate bytes as its arguments; and the small closed sets that name
operands (R85 to R88).
-/

namespace Sys2Proof

/-- The register identifiers of the register file (10_state.md R20, R21), in the order of their
field codes 0 to 5 and 7 (R85). -/
inductive Reg where
  | B | C | D | E | H | L | A
  deriving DecidableEq, Repr

/-- The register pairs of the register file (R22). -/
inductive Pair where
  | BC | DE | HL
  deriving DecidableEq, Repr

/-- The pair field of LXI, INX, DCX, DAD (R86): a pair, or the stack pointer. -/
inductive PairSp where
  | pair (p : Pair)
  | SP
  deriving DecidableEq, Repr

/-- The pair field of PUSH and POP (R86): a pair, or `PSW`. -/
inductive PairPsw where
  | pair (p : Pair)
  | PSW
  deriving DecidableEq, Repr

/-- The pair field of STAX and LDAX (R86): only BC and DE. -/
inductive PairBD where
  | BC | DE
  deriving DecidableEq, Repr

/-- The 8-bit operand field (R85): a register, or `M`, the byte at `pair(HL)` (R23). -/
inductive Operand where
  | reg (r : Reg)
  | M
  deriving DecidableEq, Repr

/-- The ALU-operation field (R88), in the order of its codes. -/
inductive AluOp where
  | add | adc | sub | sbb | ana | xra | ora | cmp
  deriving DecidableEq, Repr

/-- The condition field (R87), in the order of its codes. -/
inductive Cond where
  | NZ | Z | NC | C | PO | PE | P | M
  deriving DecidableEq, Repr

/-- One constructor per mnemonic of the opcode table (R90). `d8`, `d16`, `a16`, `p8` are the bytes
after the opcode (R84); `undocumented` is the table's `*UNDOCUMENTED`, with the byte (R91). -/
inductive Instr where
  -- the undocumented bytes (30_encoding.md R91)
  | undocumented (op : Byte)
  -- data transfer (40_data_transfer.md)
  | lxiB (d16 : Word) | staxB | mviB (d8 : Byte) | ldaxB | mviC (d8 : Byte) | lxiD (d16 : Word)
  | staxD | mviD (d8 : Byte) | ldaxD | mviE (d8 : Byte) | lxiH (d16 : Word) | shld (a16 : Word)
  | mviH (d8 : Byte) | lhld (a16 : Word) | mviL (d8 : Byte) | lxiSp (d16 : Word)
  | sta (a16 : Word) | mviM (d8 : Byte) | lda (a16 : Word) | mviA (d8 : Byte) | movBB | movBC
  | movBD | movBE | movBH | movBL | movBM | movBA | movCB | movCC | movCD | movCE | movCH | movCL
  | movCM | movCA | movDB | movDC | movDD | movDE | movDH | movDL | movDM | movDA | movEB | movEC
  | movED | movEE | movEH | movEL | movEM | movEA | movHB | movHC | movHD | movHE | movHH | movHL
  | movHM | movHA | movLB | movLC | movLD | movLE | movLH | movLL | movLM | movLA | movMB | movMC
  | movMD | movME | movMH | movML | movMA | movAB | movAC | movAD | movAE | movAH | movAL | movAM
  | movAA | xthl | xchg | sphl
  -- arithmetic (41_arithmetic.md)
  | inxB | inrB | dcrB | dadB | dcxB | inrC | dcrC | inxD | inrD | dcrD | dadD | dcxD | inrE
  | dcrE | inxH | inrH | dcrH | dadH | dcxH | inrL | dcrL | inxSp | inrM | dcrM | dadSp | dcxSp
  | inrA | dcrA | addB | addC | addD | addE | addH | addL | addM | addA | adcB | adcC | adcD
  | adcE | adcH | adcL | adcM | adcA | subB | subC | subD | subE | subH | subL | subM | subA
  | sbbB | sbbC | sbbD | sbbE | sbbH | sbbL | sbbM | sbbA | adi (d8 : Byte) | aci (d8 : Byte)
  | sui (d8 : Byte) | sbi (d8 : Byte)
  -- logical, compare, rotate, adjust (42_logical.md)
  | rlc | rrc | ral | rar | daa | cma | stc | cmc | anaB | anaC | anaD | anaE | anaH | anaL
  | anaM | anaA | xraB | xraC | xraD | xraE | xraH | xraL | xraM | xraA | oraB | oraC | oraD
  | oraE | oraH | oraL | oraM | oraA | cmpB | cmpC | cmpD | cmpE | cmpH | cmpL | cmpM | cmpA
  | ani (d8 : Byte) | xri (d8 : Byte) | ori (d8 : Byte) | cpi (d8 : Byte)
  -- stack and control transfer (43_stack_control.md)
  | rnz | popB | jnz (a16 : Word) | jmp (a16 : Word) | cnz (a16 : Word) | pushB | rst0 | rz | ret
  | jz (a16 : Word) | cz (a16 : Word) | call (a16 : Word) | rst1 | rnc | popD | jnc (a16 : Word)
  | cnc (a16 : Word) | pushD | rst2 | rc | jc (a16 : Word) | cc (a16 : Word) | rst3 | rpo | popH
  | jpo (a16 : Word) | cpo (a16 : Word) | pushH | rst4 | rpe | pchl | jpe (a16 : Word)
  | cpe (a16 : Word) | rst5 | rp | popPsw | jp (a16 : Word) | cp (a16 : Word) | pushPsw | rst6
  | rm | jm (a16 : Word) | cm (a16 : Word) | rst7
  -- I/O, interrupt enable, halt, no-operation (44_io_interrupt_halt.md)
  | nop | hlt | out (p8 : Byte) | inp (p8 : Byte) | di | ei
  deriving DecidableEq, Repr

end Sys2Proof
end

