-- ==== Sys2Proof/WellFormed.lean ====
section
/-!
DEFINITION. Which terms of Instr are instructions of the hardware. Every immediate value is legal
(R92) and the operand sets are closed types, so one check remains: the byte of an `undocumented`
term is one of the 12 of R91.
-/

namespace Sys2Proof

/-- The 12 first-byte values that are not documented instructions (R91). -/
def undocumentedBytes : List Byte :=
  [0x08, 0x10, 0x18, 0x20, 0x28, 0x30, 0x38, 0xCB, 0xD9, 0xDD, 0xED, 0xFD]

/-- The well-formed instructions: every documented one with any immediate (R92), and an
undocumented byte of the list of R91. -/
def Instr.wellFormed : Instr → Bool
  | .undocumented op => undocumentedBytes.contains op
  | _ => true

end Sys2Proof
end

