-- ==== Sys2Proof/Decode.lean ====
section
/-!
DEFINITION. Decoding and encoding (30_encoding.md). `decodeOpcode` reads the bit shapes of R81 field
by field (R85 to R89) and is total on every byte; `decode` reads a list of bytes and rejects, by
name, only a list that ends inside an instruction. `encode` is written from the map of R90 instead,
one 8-bit pattern a constructor. The functions named after an instruction shape (`Instr.movRR`,
`Instr.alu`, ...) give the constructor of one shape at each value of its fields; statements about a
whole shape are written with them.
-/

namespace Sys2Proof

/-! ### Bytes of a 16-bit value -/

/-- Bits 15:8 (R7). -/
def hiByte (v : Word) : Byte := v.extractLsb' 8 8

/-- Bits 7:0 (R7). -/
def loByte (v : Word) : Byte := v.extractLsb' 0 8

/-- `hi ++ lo`: the 16-bit value of its two bytes (R7, R84). -/
def joinBytes (hi lo : Byte) : Word := hi ++ lo

/-! ### The instruction shapes (R81) -/

/-- `01 ddd sss`: `MOV r1,r2` (R102). -/
def Instr.movRR : Reg → Reg → Instr
  | .B, .B => .movBB | .B, .C => .movBC | .B, .D => .movBD | .B, .E => .movBE | .B, .H => .movBH
  | .B, .L => .movBL | .B, .A => .movBA | .C, .B => .movCB | .C, .C => .movCC | .C, .D => .movCD
  | .C, .E => .movCE | .C, .H => .movCH | .C, .L => .movCL | .C, .A => .movCA | .D, .B => .movDB
  | .D, .C => .movDC | .D, .D => .movDD | .D, .E => .movDE | .D, .H => .movDH | .D, .L => .movDL
  | .D, .A => .movDA | .E, .B => .movEB | .E, .C => .movEC | .E, .D => .movED | .E, .E => .movEE
  | .E, .H => .movEH | .E, .L => .movEL | .E, .A => .movEA | .H, .B => .movHB | .H, .C => .movHC
  | .H, .D => .movHD | .H, .E => .movHE | .H, .H => .movHH | .H, .L => .movHL | .H, .A => .movHA
  | .L, .B => .movLB | .L, .C => .movLC | .L, .D => .movLD | .L, .E => .movLE | .L, .H => .movLH
  | .L, .L => .movLL | .L, .A => .movLA | .A, .B => .movAB | .A, .C => .movAC | .A, .D => .movAD
  | .A, .E => .movAE | .A, .H => .movAH | .A, .L => .movAL | .A, .A => .movAA

/-- `01 ddd 110`: `MOV r,M` (R103). -/
def Instr.movRM : Reg → Instr
  | .B => .movBM | .C => .movCM | .D => .movDM | .E => .movEM | .H => .movHM | .L => .movLM
  | .A => .movAM

/-- `01 110 sss`: `MOV M,r` (R104). -/
def Instr.movMR : Reg → Instr
  | .B => .movMB | .C => .movMC | .D => .movMD | .E => .movME | .H => .movMH | .L => .movML
  | .A => .movMA

/-- `00 ddd 110`: `MVI r,d8`, `MVI M,d8` (R105, R106). -/
def Instr.mvi : Operand → Byte → Instr
  | .reg .B, d8 => .mviB d8 | .reg .C, d8 => .mviC d8 | .reg .D, d8 => .mviD d8
  | .reg .E, d8 => .mviE d8 | .reg .H, d8 => .mviH d8 | .reg .L, d8 => .mviL d8
  | .reg .A, d8 => .mviA d8 | .M, d8 => .mviM d8

/-- `00 ddd 100`: `INR r`, `INR M` (R140, R141). -/
def Instr.inr : Operand → Instr
  | .reg .B => .inrB | .reg .C => .inrC | .reg .D => .inrD | .reg .E => .inrE | .reg .H => .inrH
  | .reg .L => .inrL | .reg .A => .inrA | .M => .inrM

/-- `00 ddd 101`: `DCR r`, `DCR M` (R142, R143). -/
def Instr.dcr : Operand → Instr
  | .reg .B => .dcrB | .reg .C => .dcrC | .reg .D => .dcrD | .reg .E => .dcrE | .reg .H => .dcrH
  | .reg .L => .dcrL | .reg .A => .dcrA | .M => .dcrM

/-- `00 rp0 001`: `LXI rp,d16` (R107). -/
def Instr.lxi : PairSp → Word → Instr
  | .pair .BC, d16 => .lxiB d16 | .pair .DE, d16 => .lxiD d16 | .pair .HL, d16 => .lxiH d16
  | .SP, d16 => .lxiSp d16

/-- `00 rp0 011`: `INX rp` (R144). -/
def Instr.inx : PairSp → Instr
  | .pair .BC => .inxB | .pair .DE => .inxD | .pair .HL => .inxH | .SP => .inxSp

/-- `00 rp1 011`: `DCX rp` (R145). -/
def Instr.dcx : PairSp → Instr
  | .pair .BC => .dcxB | .pair .DE => .dcxD | .pair .HL => .dcxH | .SP => .dcxSp

/-- `00 rp1 001`: `DAD rp` (R146). -/
def Instr.dad : PairSp → Instr
  | .pair .BC => .dadB | .pair .DE => .dadD | .pair .HL => .dadH | .SP => .dadSp

/-- `00 0p1 010`: `LDAX rp` (R112). -/
def Instr.ldax : PairBD → Instr
  | .BC => .ldaxB | .DE => .ldaxD

/-- `00 0p0 010`: `STAX rp` (R113). -/
def Instr.stax : PairBD → Instr
  | .BC => .staxB | .DE => .staxD

/-- `10 aaa sss`: the eight ALU operations on a register or `M` (R88). -/
def Instr.alu : AluOp → Operand → Instr
  | .add, .reg .B => .addB | .add, .reg .C => .addC | .add, .reg .D => .addD
  | .add, .reg .E => .addE | .add, .reg .H => .addH | .add, .reg .L => .addL
  | .add, .reg .A => .addA | .add, .M => .addM | .adc, .reg .B => .adcB | .adc, .reg .C => .adcC
  | .adc, .reg .D => .adcD | .adc, .reg .E => .adcE | .adc, .reg .H => .adcH
  | .adc, .reg .L => .adcL | .adc, .reg .A => .adcA | .adc, .M => .adcM | .sub, .reg .B => .subB
  | .sub, .reg .C => .subC | .sub, .reg .D => .subD | .sub, .reg .E => .subE
  | .sub, .reg .H => .subH | .sub, .reg .L => .subL | .sub, .reg .A => .subA | .sub, .M => .subM
  | .sbb, .reg .B => .sbbB | .sbb, .reg .C => .sbbC | .sbb, .reg .D => .sbbD
  | .sbb, .reg .E => .sbbE | .sbb, .reg .H => .sbbH | .sbb, .reg .L => .sbbL
  | .sbb, .reg .A => .sbbA | .sbb, .M => .sbbM | .ana, .reg .B => .anaB | .ana, .reg .C => .anaC
  | .ana, .reg .D => .anaD | .ana, .reg .E => .anaE | .ana, .reg .H => .anaH
  | .ana, .reg .L => .anaL | .ana, .reg .A => .anaA | .ana, .M => .anaM | .xra, .reg .B => .xraB
  | .xra, .reg .C => .xraC | .xra, .reg .D => .xraD | .xra, .reg .E => .xraE
  | .xra, .reg .H => .xraH | .xra, .reg .L => .xraL | .xra, .reg .A => .xraA | .xra, .M => .xraM
  | .ora, .reg .B => .oraB | .ora, .reg .C => .oraC | .ora, .reg .D => .oraD
  | .ora, .reg .E => .oraE | .ora, .reg .H => .oraH | .ora, .reg .L => .oraL
  | .ora, .reg .A => .oraA | .ora, .M => .oraM | .cmp, .reg .B => .cmpB | .cmp, .reg .C => .cmpC
  | .cmp, .reg .D => .cmpD | .cmp, .reg .E => .cmpE | .cmp, .reg .H => .cmpH
  | .cmp, .reg .L => .cmpL | .cmp, .reg .A => .cmpA | .cmp, .M => .cmpM

/-- `11 aaa 110`: the eight ALU operations on an immediate (R88). -/
def Instr.aluImm : AluOp → Byte → Instr
  | .add, d8 => .adi d8 | .adc, d8 => .aci d8 | .sub, d8 => .sui d8 | .sbb, d8 => .sbi d8
  | .ana, d8 => .ani d8 | .xra, d8 => .xri d8 | .ora, d8 => .ori d8 | .cmp, d8 => .cpi d8

/-- `11 rp0 101`: `PUSH rp`, `PUSH PSW` (R192, R193). -/
def Instr.push : PairPsw → Instr
  | .pair .BC => .pushB | .pair .DE => .pushD | .pair .HL => .pushH | .PSW => .pushPsw

/-- `11 rp0 001`: `POP rp`, `POP PSW` (R194, R195). -/
def Instr.pop : PairPsw → Instr
  | .pair .BC => .popB | .pair .DE => .popD | .pair .HL => .popH | .PSW => .popPsw

/-- `11 ccc 010`: the conditional jumps (R197). -/
def Instr.jcc : Cond → Word → Instr
  | .NZ, a16 => .jnz a16 | .Z, a16 => .jz a16 | .NC, a16 => .jnc a16 | .C, a16 => .jc a16
  | .PO, a16 => .jpo a16 | .PE, a16 => .jpe a16 | .P, a16 => .jp a16 | .M, a16 => .jm a16

/-- `11 ccc 100`: the conditional calls (R199). -/
def Instr.ccc : Cond → Word → Instr
  | .NZ, a16 => .cnz a16 | .Z, a16 => .cz a16 | .NC, a16 => .cnc a16 | .C, a16 => .cc a16
  | .PO, a16 => .cpo a16 | .PE, a16 => .cpe a16 | .P, a16 => .cp a16 | .M, a16 => .cm a16

/-- `11 ccc 000`: the conditional returns (R201). -/
def Instr.rcc : Cond → Instr
  | .NZ => .rnz | .Z => .rz | .NC => .rnc | .C => .rc | .PO => .rpo | .PE => .rpe | .P => .rp
  | .M => .rm

/-- `11 nnn 111`: the restarts (R202). -/
def Instr.rst : Fin 8 → Instr
  | 0 => .rst0 | 1 => .rst1 | 2 => .rst2 | 3 => .rst3 | 4 => .rst4 | 5 => .rst5 | 6 => .rst6
  | 7 => .rst7

/-! ### Field codes (R85 to R88) -/

/-- The 3-bit register field (R85). -/
def operandOfCode : Fin 8 → Operand
  | 0 => .reg .B | 1 => .reg .C | 2 => .reg .D | 3 => .reg .E | 4 => .reg .H | 5 => .reg .L
  | 6 => .M | 7 => .reg .A

/-- The 2-bit pair field of LXI, INX, DCX, DAD (R86). -/
def pairSpOfCode : Fin 4 → PairSp
  | 0 => .pair .BC | 1 => .pair .DE | 2 => .pair .HL | 3 => .SP

/-- The 2-bit pair field of PUSH and POP (R86). -/
def pairPswOfCode : Fin 4 → PairPsw
  | 0 => .pair .BC | 1 => .pair .DE | 2 => .pair .HL | 3 => .PSW

/-- The 3-bit condition field (R87). -/
def condOfCode : Fin 8 → Cond
  | 0 => .NZ | 1 => .Z | 2 => .NC | 3 => .C | 4 => .PO | 5 => .PE | 6 => .P | 7 => .M

/-- The 3-bit ALU-operation field (R88). -/
def aluOfCode : Fin 8 → AluOp
  | 0 => .add | 1 => .adc | 2 => .sub | 3 => .sbb | 4 => .ana | 5 => .xra | 6 => .ora | 7 => .cmp

/-! ### The fields of an opcode byte (R81) -/

/-- Bits 7:6. -/
def fieldX (op : Byte) : Fin 4 := (op.extractLsb' 6 2).toFin

/-- Bits 5:3. -/
def fieldY (op : Byte) : Fin 8 := (op.extractLsb' 3 3).toFin

/-- Bits 2:0. -/
def fieldZ (op : Byte) : Fin 8 := (op.extractLsb' 0 3).toFin

/-- Bits 5:4. -/
def fieldRp (op : Byte) : Fin 4 := (op.extractLsb' 4 2).toFin

/-- Bit 3, the fixed bit of the `rp` shapes. -/
def fieldQ (op : Byte) : Bool := op.getLsbD 3

/-! ### Decoding -/

/-- The shapes with bits 7:6 = 00. -/
def decodeX0 (op b2 : Byte) (d16 : Word) : Instr :=
  match fieldZ op with
  | 0 => if fieldY op = 0 then .nop else .undocumented op
  | 1 => if fieldQ op then .dad (pairSpOfCode (fieldRp op))
         else .lxi (pairSpOfCode (fieldRp op)) d16
  | 2 => match fieldY op with
    | 0 => .stax .BC | 1 => .ldax .BC | 2 => .stax .DE | 3 => .ldax .DE
    | 4 => .shld d16 | 5 => .lhld d16 | 6 => .sta d16 | 7 => .lda d16
  | 3 => if fieldQ op then .dcx (pairSpOfCode (fieldRp op))
         else .inx (pairSpOfCode (fieldRp op))
  | 4 => .inr (operandOfCode (fieldY op))
  | 5 => .dcr (operandOfCode (fieldY op))
  | 6 => .mvi (operandOfCode (fieldY op)) b2
  | 7 => match fieldY op with
    | 0 => .rlc | 1 => .rrc | 2 => .ral | 3 => .rar
    | 4 => .daa | 5 => .cma | 6 => .stc | 7 => .cmc

/-- The shape with bits 7:6 = 01: `MOV`, and `HLT` where both operand fields are 110 (R85). -/
def decodeX1 (op : Byte) : Instr :=
  match operandOfCode (fieldY op), operandOfCode (fieldZ op) with
  | .reg d, .reg s => .movRR d s
  | .reg d, .M => .movRM d
  | .M, .reg s => .movMR s
  | .M, .M => .hlt

/-- The shapes with bits 7:6 = 11. -/
def decodeX3 (op b2 : Byte) (d16 : Word) : Instr :=
  match fieldZ op with
  | 0 => .rcc (condOfCode (fieldY op))
  | 1 => if fieldQ op then
      match fieldRp op with
      | 0 => .ret | 1 => .undocumented op | 2 => .pchl | 3 => .sphl
    else .pop (pairPswOfCode (fieldRp op))
  | 2 => .jcc (condOfCode (fieldY op)) d16
  | 3 => match fieldY op with
    | 0 => .jmp d16 | 1 => .undocumented op | 2 => .out b2 | 3 => .inp b2
    | 4 => .xthl | 5 => .xchg | 6 => .di | 7 => .ei
  | 4 => .ccc (condOfCode (fieldY op)) d16
  | 5 => if fieldQ op then
      match fieldRp op with
      | 0 => .call d16 | 1 => .undocumented op | 2 => .undocumented op | 3 => .undocumented op
    else .push (pairPswOfCode (fieldRp op))
  | 6 => .aluImm (aluOfCode (fieldY op)) b2
  | 7 => .rst (fieldY op)

/-- The instruction of an opcode byte and the two bytes after it; a shape without them ignores
them (R80, R81, R84). -/
def decodeOpcode (op b2 b3 : Byte) : Instr :=
  match fieldX op with
  | 0 => decodeX0 op b2 (joinBytes b3 b2)
  | 1 => decodeX1 op
  | 2 => .alu (aluOfCode (fieldY op)) (operandOfCode (fieldZ op))
  | 3 => decodeX3 op b2 (joinBytes b3 b2)

/-- The opcodes of length 3 (R83). -/
def opcodesOfLength3 : List Byte :=
  [0x01, 0x11, 0x21, 0x31, 0x22, 0x2A, 0x32, 0x3A, 0xC3, 0xCD,
   0xC2, 0xCA, 0xD2, 0xDA, 0xE2, 0xEA, 0xF2, 0xFA,
   0xC4, 0xCC, 0xD4, 0xDC, 0xE4, 0xEC, 0xF4, 0xFC]

/-- The opcodes of length 2 (R83). -/
def opcodesOfLength2 : List Byte :=
  [0x06, 0x0E, 0x16, 0x1E, 0x26, 0x2E, 0x36, 0x3E,
   0xC6, 0xCE, 0xD6, 0xDE, 0xE6, 0xEE, 0xF6, 0xFE, 0xD3, 0xDB]

/-- How many bytes are fetched for an opcode byte (R83). An undocumented byte has no length; only
the byte itself is fetched before it faults (R91, R243). -/
def opLength (op : Byte) : Nat :=
  if opcodesOfLength3.contains op then 3
  else if opcodesOfLength2.contains op then 2
  else 1

/-- Why a list of bytes is no instruction. -/
inductive DecodeError where
  /-- The list is empty. -/
  | noBytes
  /-- The list ends before the last byte of the instruction that `op` begins. -/
  | truncated (op : Byte)
  deriving DecidableEq, Repr

/-- The instruction at the head of a list of bytes, and the bytes after it. -/
def decode : List Byte → Except DecodeError (Instr × List Byte)
  | [] => .error .noBytes
  | op :: rest =>
    match opLength op, rest with
    | 3, b2 :: b3 :: rest' => .ok (decodeOpcode op b2 b3, rest')
    | 2, b2 :: rest' => .ok (decodeOpcode op b2 0, rest')
    | 1, rest' => .ok (decodeOpcode op 0 0, rest')
    | _, _ => .error (.truncated op)

/-! ### Encoding -/

/-- The bytes of an instruction, by the map of R90: its opcode byte, then `b2`, then `b3` (R84). -/
def encode : Instr → List Byte
  | .nop => [0b00000000] | .lxiB d16 => [0b00000001, loByte d16, hiByte d16]
  | .staxB => [0b00000010] | .inxB => [0b00000011] | .inrB => [0b00000100] | .dcrB => [0b00000101]
  | .mviB d8 => [0b00000110, d8] | .rlc => [0b00000111] | .dadB => [0b00001001]
  | .ldaxB => [0b00001010] | .dcxB => [0b00001011] | .inrC => [0b00001100] | .dcrC => [0b00001101]
  | .mviC d8 => [0b00001110, d8] | .rrc => [0b00001111]
  | .lxiD d16 => [0b00010001, loByte d16, hiByte d16] | .staxD => [0b00010010]
  | .inxD => [0b00010011] | .inrD => [0b00010100] | .dcrD => [0b00010101]
  | .mviD d8 => [0b00010110, d8] | .ral => [0b00010111] | .dadD => [0b00011001]
  | .ldaxD => [0b00011010] | .dcxD => [0b00011011] | .inrE => [0b00011100] | .dcrE => [0b00011101]
  | .mviE d8 => [0b00011110, d8] | .rar => [0b00011111]
  | .lxiH d16 => [0b00100001, loByte d16, hiByte d16]
  | .shld a16 => [0b00100010, loByte a16, hiByte a16] | .inxH => [0b00100011]
  | .inrH => [0b00100100] | .dcrH => [0b00100101] | .mviH d8 => [0b00100110, d8]
  | .daa => [0b00100111] | .dadH => [0b00101001]
  | .lhld a16 => [0b00101010, loByte a16, hiByte a16] | .dcxH => [0b00101011]
  | .inrL => [0b00101100] | .dcrL => [0b00101101] | .mviL d8 => [0b00101110, d8]
  | .cma => [0b00101111] | .lxiSp d16 => [0b00110001, loByte d16, hiByte d16]
  | .sta a16 => [0b00110010, loByte a16, hiByte a16] | .inxSp => [0b00110011]
  | .inrM => [0b00110100] | .dcrM => [0b00110101] | .mviM d8 => [0b00110110, d8]
  | .stc => [0b00110111] | .dadSp => [0b00111001]
  | .lda a16 => [0b00111010, loByte a16, hiByte a16] | .dcxSp => [0b00111011]
  | .inrA => [0b00111100] | .dcrA => [0b00111101] | .mviA d8 => [0b00111110, d8]
  | .cmc => [0b00111111] | .movBB => [0b01000000] | .movBC => [0b01000001]
  | .movBD => [0b01000010] | .movBE => [0b01000011] | .movBH => [0b01000100]
  | .movBL => [0b01000101] | .movBM => [0b01000110] | .movBA => [0b01000111]
  | .movCB => [0b01001000] | .movCC => [0b01001001] | .movCD => [0b01001010]
  | .movCE => [0b01001011] | .movCH => [0b01001100] | .movCL => [0b01001101]
  | .movCM => [0b01001110] | .movCA => [0b01001111] | .movDB => [0b01010000]
  | .movDC => [0b01010001] | .movDD => [0b01010010] | .movDE => [0b01010011]
  | .movDH => [0b01010100] | .movDL => [0b01010101] | .movDM => [0b01010110]
  | .movDA => [0b01010111] | .movEB => [0b01011000] | .movEC => [0b01011001]
  | .movED => [0b01011010] | .movEE => [0b01011011] | .movEH => [0b01011100]
  | .movEL => [0b01011101] | .movEM => [0b01011110] | .movEA => [0b01011111]
  | .movHB => [0b01100000] | .movHC => [0b01100001] | .movHD => [0b01100010]
  | .movHE => [0b01100011] | .movHH => [0b01100100] | .movHL => [0b01100101]
  | .movHM => [0b01100110] | .movHA => [0b01100111] | .movLB => [0b01101000]
  | .movLC => [0b01101001] | .movLD => [0b01101010] | .movLE => [0b01101011]
  | .movLH => [0b01101100] | .movLL => [0b01101101] | .movLM => [0b01101110]
  | .movLA => [0b01101111] | .movMB => [0b01110000] | .movMC => [0b01110001]
  | .movMD => [0b01110010] | .movME => [0b01110011] | .movMH => [0b01110100]
  | .movML => [0b01110101] | .hlt => [0b01110110] | .movMA => [0b01110111]
  | .movAB => [0b01111000] | .movAC => [0b01111001] | .movAD => [0b01111010]
  | .movAE => [0b01111011] | .movAH => [0b01111100] | .movAL => [0b01111101]
  | .movAM => [0b01111110] | .movAA => [0b01111111] | .addB => [0b10000000]
  | .addC => [0b10000001] | .addD => [0b10000010] | .addE => [0b10000011] | .addH => [0b10000100]
  | .addL => [0b10000101] | .addM => [0b10000110] | .addA => [0b10000111] | .adcB => [0b10001000]
  | .adcC => [0b10001001] | .adcD => [0b10001010] | .adcE => [0b10001011] | .adcH => [0b10001100]
  | .adcL => [0b10001101] | .adcM => [0b10001110] | .adcA => [0b10001111] | .subB => [0b10010000]
  | .subC => [0b10010001] | .subD => [0b10010010] | .subE => [0b10010011] | .subH => [0b10010100]
  | .subL => [0b10010101] | .subM => [0b10010110] | .subA => [0b10010111] | .sbbB => [0b10011000]
  | .sbbC => [0b10011001] | .sbbD => [0b10011010] | .sbbE => [0b10011011] | .sbbH => [0b10011100]
  | .sbbL => [0b10011101] | .sbbM => [0b10011110] | .sbbA => [0b10011111] | .anaB => [0b10100000]
  | .anaC => [0b10100001] | .anaD => [0b10100010] | .anaE => [0b10100011] | .anaH => [0b10100100]
  | .anaL => [0b10100101] | .anaM => [0b10100110] | .anaA => [0b10100111] | .xraB => [0b10101000]
  | .xraC => [0b10101001] | .xraD => [0b10101010] | .xraE => [0b10101011] | .xraH => [0b10101100]
  | .xraL => [0b10101101] | .xraM => [0b10101110] | .xraA => [0b10101111] | .oraB => [0b10110000]
  | .oraC => [0b10110001] | .oraD => [0b10110010] | .oraE => [0b10110011] | .oraH => [0b10110100]
  | .oraL => [0b10110101] | .oraM => [0b10110110] | .oraA => [0b10110111] | .cmpB => [0b10111000]
  | .cmpC => [0b10111001] | .cmpD => [0b10111010] | .cmpE => [0b10111011] | .cmpH => [0b10111100]
  | .cmpL => [0b10111101] | .cmpM => [0b10111110] | .cmpA => [0b10111111] | .rnz => [0b11000000]
  | .popB => [0b11000001] | .jnz a16 => [0b11000010, loByte a16, hiByte a16]
  | .jmp a16 => [0b11000011, loByte a16, hiByte a16]
  | .cnz a16 => [0b11000100, loByte a16, hiByte a16] | .pushB => [0b11000101]
  | .adi d8 => [0b11000110, d8] | .rst0 => [0b11000111] | .rz => [0b11001000]
  | .ret => [0b11001001] | .jz a16 => [0b11001010, loByte a16, hiByte a16]
  | .cz a16 => [0b11001100, loByte a16, hiByte a16]
  | .call a16 => [0b11001101, loByte a16, hiByte a16] | .aci d8 => [0b11001110, d8]
  | .rst1 => [0b11001111] | .rnc => [0b11010000] | .popD => [0b11010001]
  | .jnc a16 => [0b11010010, loByte a16, hiByte a16] | .out p8 => [0b11010011, p8]
  | .cnc a16 => [0b11010100, loByte a16, hiByte a16] | .pushD => [0b11010101]
  | .sui d8 => [0b11010110, d8] | .rst2 => [0b11010111] | .rc => [0b11011000]
  | .jc a16 => [0b11011010, loByte a16, hiByte a16] | .inp p8 => [0b11011011, p8]
  | .cc a16 => [0b11011100, loByte a16, hiByte a16] | .sbi d8 => [0b11011110, d8]
  | .rst3 => [0b11011111] | .rpo => [0b11100000] | .popH => [0b11100001]
  | .jpo a16 => [0b11100010, loByte a16, hiByte a16] | .xthl => [0b11100011]
  | .cpo a16 => [0b11100100, loByte a16, hiByte a16] | .pushH => [0b11100101]
  | .ani d8 => [0b11100110, d8] | .rst4 => [0b11100111] | .rpe => [0b11101000]
  | .pchl => [0b11101001] | .jpe a16 => [0b11101010, loByte a16, hiByte a16]
  | .xchg => [0b11101011] | .cpe a16 => [0b11101100, loByte a16, hiByte a16]
  | .xri d8 => [0b11101110, d8] | .rst5 => [0b11101111] | .rp => [0b11110000]
  | .popPsw => [0b11110001] | .jp a16 => [0b11110010, loByte a16, hiByte a16]
  | .di => [0b11110011] | .cp a16 => [0b11110100, loByte a16, hiByte a16]
  | .pushPsw => [0b11110101] | .ori d8 => [0b11110110, d8] | .rst6 => [0b11110111]
  | .rm => [0b11111000] | .sphl => [0b11111001] | .jm a16 => [0b11111010, loByte a16, hiByte a16]
  | .ei => [0b11111011] | .cm a16 => [0b11111100, loByte a16, hiByte a16]
  | .cpi d8 => [0b11111110, d8] | .rst7 => [0b11111111] | .undocumented op => [op]

/-- The opcode byte of an instruction: the first byte of its encoding (R80). -/
def opcodeOf (i : Instr) : Byte := (encode i).headD 0

/-! ### The opcode table's numbering -/

/-- Byte `k` of a number whose byte 0 is the least significant. -/
def byteOfNat (w k : Nat) : Byte := BitVec.ofNat 8 (w / 256 ^ k)

/-- The bytes of an instruction whose first `nbits` bits are `w` (bit 0 the least significant bit of
the first byte) and whose other bits are 0; three bytes, the longest instruction (R80). -/
def tableBytes (nbits w : Nat) : List Byte :=
  [byteOfNat (w % 2 ^ nbits) 0, byteOfNat (w % 2 ^ nbits) 1, byteOfNat (w % 2 ^ nbits) 2]

/-- The instruction that `decode` reads from the bits of a row of spec/opcode_table.json. -/
def decodeTableWord (nbits w : Nat) : Option Instr :=
  match decode (tableBytes nbits w) with
  | .ok (i, _) => some i
  | .error _ => none

end Sys2Proof
end

