-- ==== Sys2Proof/Config.lean ====
section
/-!
DEFINITION. The configuration of the block (00_scope.md R6, 10_state.md R35): values fixed at
construction, which no operation writes. They are plain data that State carries in one field, so
every statement about a state speaks of every configuration (log 1). The two values the spec leaves
open with no default are opaque constants: nothing can evaluate them.
-/

namespace Sys2Proof

/-- `WRITE_PROTECT_POLICY`: what a write outside the writable range does (R6, R55). -/
inductive WritePolicy where
  | drop
  | fault
  deriving DecidableEq, Repr

/-- `LOGIC_AC_POLICY`: what ANA, ANI, ORA, ORI, XRA, XRI do to AuxCarry (R6, R160). -/
inductive LogicAcPolicy where
  | i8080
  | clear
  | unchanged
  deriving DecidableEq, Repr

/-- An inclusive range of addresses. -/
structure AddrRange where
  first : Nat
  last : Nat
  deriving DecidableEq, Repr

/-- One entry of the cycle table `CYCLES` (R6, R278): the base cost of an opcode, and the alternate
cost, which only a conditional instruction uses. -/
structure CycleEntry where
  opcode : Byte
  base : Nat
  alt : Nat
  deriving DecidableEq, Repr

/-- The configuration parameters of R6 that the rules read. Which configurations are legal is
`Machine.configLegal` (R66). -/
structure Config where
  /-- `MemorySize`, the number of bytes of the memory array. -/
  memorySize : Nat
  /-- `WriteableMemoryStart`, `WriteableMemoryEnd`. -/
  writable : AddrRange
  /-- `MirrorMemoryStart`, `MirrorMemoryEnd`, or absent. -/
  mirror : Option AddrRange
  writePolicy : WritePolicy
  logicAc : LogicAcPolicy
  /-- `EnableDiagnosticsMode`; only `false` is legal (decision D21). -/
  diagnostics : Bool
  /-- The ports that have a read handler: `IoRead` is 0x00 on every other port (R220). -/
  inPorts : List Byte
  /-- Where `CYCLES` differs from its default, the standard table of R279 (log 9). -/
  cycles : List CycleEntry
  deriving DecidableEq, Repr

/-- SIE's reference machine (R6, third column): 16 KiB, RAM at 0x2000 to 0x3FFF mirrored at 0x4000
to 0x5FFF, the default policies and cycle table, no read handler on any port (log 1, log 6). -/
def Config.reference : Config where
  memorySize := 0x4000
  writable := { first := 0x2000, last := 0x3FFF }
  mirror := some { first := 0x4000, last := 0x5FFF }
  writePolicy := .drop
  logicAc := .i8080
  diagnostics := false
  inPorts := []
  cycles := []

/-- FREE VALUE (log 5): the byte the device behind `port` gives to the `n`-th executed `IN` (R220:
"the block places no constraint on the byte"). -/
opaque Config.ioByte (n : Nat) (port : Byte) : Byte

/-- FREE VALUE (log 9): `INT_CYCLES`, the cycle count an accepted interrupt reports (R254, OPEN). -/
opaque Config.intCycles : Nat

end Sys2Proof
end

