-- ==== Sys2Proof/Machine/State.lean ====
section
/-!
DEFINITION. The state of the block as plain data (10_state.md), the reasons a step can stop, and the
state after reset. Reading and writing the state is Machine/Ops.lean's.
-/

namespace Sys2Proof.Machine

/-- The seven general registers, one byte each (R20). -/
structure Regs where
  a : Byte
  b : Byte
  c : Byte
  d : Byte
  e : Byte
  h : Byte
  l : Byte
  deriving DecidableEq, Repr

/-- The five condition flags, one bit each (R28). -/
structure Flags where
  s : Bool
  z : Bool
  ac : Bool
  p : Bool
  cy : Bool
  deriving DecidableEq, Repr

/-- The memory array by physical address (R50): the listed bytes, addresses strictly rising, none
equal to `Memory.unlisted`; `Memory.wf` says so. -/
abbrev Memory := List Host.Cell

/-- The three operations the host can request between steps (R36, R60 item 5). -/
inductive HostOp where
  /-- `Step()` (R38). -/
  | step
  /-- `StepInterrupt(n)` (R244). -/
  | interrupt (n : Fin 8)
  /-- `Reset` (R270). -/
  | reset
  deriving DecidableEq, Repr

/-- What crosses the I/O port bridge: `IN` (R220) and `OUT` (R221). -/
inductive IoEvent where
  | read (port : Byte) (v : Byte)
  | write (port : Byte) (v : Byte)
  deriving DecidableEq, Repr

/-- The MODEL's own fields, no state of the block: the host's end of the interfaces of R36. -/
structure HostSide where
  /-- What the host requests next, first request first; empty means `Step` for ever (log 4). -/
  requests : List HostOp
  /-- How many `IN`s have been executed: which free input byte comes next (log 5). -/
  ioDraws : Nat
  /-- The port accesses so far, oldest first (R60 item 4, log 7). -/
  ioEvents : List IoEvent
  /-- The cycle count that the last completed operation reported, if it reported one (R278, log 8). -/
  report : Option Nat
  deriving DecidableEq, Repr

/-- The whole state: the block's own (R20 to R34, R50), the straps (R35), the host's side. -/
structure State where
  regs : Regs
  flags : Flags
  pc : Word
  sp : Word
  /-- `IE` (R33). -/
  ie : Bool
  /-- `HALTED` (R34): `false` is Running, `true` is Halted. -/
  halted : Bool
  mem : Memory
  /-- The configuration straps (R35). -/
  cfg : Config
  host : HostSide
  deriving DecidableEq, Repr

/-- The fatal conditions of R240. Each ends the step, changes nothing and goes to the host (R241);
all are safe, being the spec's own. -/
inductive Fault where
  /-- Raised by `execUndocumented`: one of the 12 bytes of R91 was fetched at `addr`. Safe: the spec's. -/
  | unimplementedOpcode (op : Byte) (addr : Word)
  /-- Raised by `instructionStep` when HALTED is 1 (R34, R38). Safe: the spec's. -/
  | steppedWhileHalted
  /-- Raised by `interruptStep` when HALTED is 1 (R248). Safe: the spec's. -/
  | interruptWhileHalted (n : Fin 8)
  /-- Raised by `phys`, so by every memory access: the translated address is not below MemorySize
  (R56). Safe: the spec's. -/
  | addressOutOfRange (addr : Word)
  /-- Raised by `memWrite` under the policy `fault`: the translated address is not writable (R55).
  Safe: the spec's. -/
  | writeProtected (addr : Word)
  /-- Raised by `loadRom`, before any run: the image exceeds the capacity (R64, R240). Safe: the spec's. -/
  | romTooLarge (length : Nat)
  /-- Raised by the register file's interface for an identifier outside its closed sets (R21, R22);
  no instruction reaches it. Safe: the spec's. -/
  | unsupportedRegister (id : Nat)
  deriving DecidableEq, Repr

/-- What the model gives no run. No step of a machine answers one. -/
inductive Refusal where
  /-- Raised by `exec`'s arm of an instruction that has no meaning yet; there is none. Safe. -/
  | notModelled (mnemonic : String)
  /-- Raised by `construct`: the configuration breaks a constraint of R66, or has the diagnostics
  mode on (U14, U20). Safe: the spec gives it no meaning. -/
  | illegalConfiguration
  /-- Raised by `construct`: the array given for MEM_INIT has not MemorySize bytes (R6, log 12).
  Safe: the spec gives it no meaning. -/
  | imageLength (length : Nat)
  deriving DecidableEq, Repr

/-- What a meaning, an operation of the host, or a step answers. -/
abbrev Result := Host.Outcome State Fault Refusal

/-- The state right after `Reset` (R39), in SIE's reference configuration (log 1), with the memory
array of a launch whose image is empty: zero-filled, nothing listed (R64, log 3). -/
def State.reset : State where
  regs := { a := 0, b := 0, c := 0, d := 0, e := 0, h := 0, l := 0 }
  flags := { s := false, z := false, ac := false, p := false, cy := false }
  pc := 0
  sp := 0
  ie := false
  halted := false
  mem := []
  cfg := Config.reference
  host := { requests := [], ioDraws := 0, ioEvents := [], report := none }

end Sys2Proof.Machine
end

