-- ==== Sys2Proof/Machine/Flags.lean ====
section
/-!
DEFINITION. Every flag computation: parity and `set_SZP` (10_state.md R30, R31), the packed byte
(R29), the 8-bit adder and subtractor (41_arithmetic.md R130, R131), the AuxCarry policy of the
logical instructions (42_logical.md R160), the decimal correction (R176), the conditions (R191).
-/

namespace Sys2Proof.Machine

/-- Even parity: true when the number of 1 bits is even (R30). -/
def parity (v : Byte) : Bool :=
  !(v.getLsbD 7 ^^ v.getLsbD 6 ^^ v.getLsbD 5 ^^ v.getLsbD 4
    ^^ v.getLsbD 3 ^^ v.getLsbD 2 ^^ v.getLsbD 1 ^^ v.getLsbD 0)

/-- `set_SZP(v)` (R31). -/
def setSZP (v : Byte) (f : Flags) : Flags :=
  { f with s := v.getLsbD 7, z := v == 0, p := parity v }

/-- `set_SZP(v); CY <- cy; AC <- ac`: all five flags from a result (R132 and others). -/
def resultFlags (v : Byte) (cy ac : Bool) : Flags :=
  { s := v.getLsbD 7, z := v == 0, ac := ac, p := parity v, cy := cy }

/-- `flags_to_byte()` (R29): S Z 0 AC 0 P 1 CY. -/
def flagsToByte (f : Flags) : Byte :=
  BitVec.ofBool f.s ++ BitVec.ofBool f.z ++ 0#1 ++ BitVec.ofBool f.ac ++ 0#1
    ++ BitVec.ofBool f.p ++ 1#1 ++ BitVec.ofBool f.cy

/-- `SetFromByte(b)` (R29): bits 5, 3 and 1 are ignored. -/
def flagsOfByte (b : Byte) : Flags where
  s := b.getLsbD 7
  z := b.getLsbD 6
  ac := b.getLsbD 4
  p := b.getLsbD 2
  cy := b.getLsbD 0

/-- What the adder and the subtractor return: `(res, cy, ac)` (R130). -/
structure AluOut where
  res : Byte
  cy : Bool
  ac : Bool
  deriving DecidableEq, Repr

/-- The 8-bit adder (R130). -/
def add8 (a b : Byte) (cin : Bool) : AluOut :=
  let t : BitVec 9 := a.setWidth 9 + b.setWidth 9 + (BitVec.ofBool cin).setWidth 9
  { res := t.setWidth 8
    cy := t.getLsbD 8
    ac := decide ((a.extractLsb' 0 4).toNat + (b.extractLsb' 0 4).toNat + cin.toNat > 15) }

/-- The 8-bit subtractor: the adder on the complemented operand, its carry inverted (R131). -/
def sub8 (a b : Byte) (bin : Bool) : AluOut :=
  let o := add8 a (~~~b) (!bin)
  { o with cy := !o.cy }

/-- The flags of `INR` for its result (R140): all but CY. -/
def incFlags (res : Byte) (f : Flags) : Flags :=
  { setSZP res f with ac := res.extractLsb' 0 4 == 0 }

/-- The flags of `DCR` for its old value and its result (R142): all but CY. -/
def decFlags (old res : Byte) (f : Flags) : Flags :=
  { setSZP res f with ac := old.extractLsb' 0 4 != 0 }

/-- AC after `ANA`, `ANI` under `LOGIC_AC_POLICY` (R160); `old` is AC before. -/
def andAc (p : LogicAcPolicy) (a v : Byte) (old : Bool) : Bool :=
  match p with
  | .i8080 => (a ||| v).getLsbD 3
  | .clear => false
  | .unchanged => old

/-- AC after `ORA`, `ORI`, `XRA`, `XRI` under `LOGIC_AC_POLICY` (R160); `old` is AC before. -/
def orAc (p : LogicAcPolicy) (old : Bool) : Bool :=
  match p with
  | .i8080 => false
  | .clear => false
  | .unchanged => old

/-- The condition of the low correction of `DAA` (R176). -/
def daaLow (a : Byte) (ac : Bool) : Bool :=
  decide ((a.extractLsb' 0 4).toNat > 9) || ac

/-- The condition of the high correction of `DAA` (R176). -/
def daaHigh (a : Byte) (cy : Bool) : Bool :=
  decide ((a.extractLsb' 4 4).toNat > 9) || cy
    || (decide ((a.extractLsb' 4 4).toNat ≥ 9) && decide ((a.extractLsb' 0 4).toNat > 9))

/-- The value `DAA` adds to A (R176). -/
def daaCorrection (a : Byte) (ac cy : Bool) : Byte :=
  (if daaLow a ac then 0x06 else 0x00) + (if daaHigh a cy then 0x60 else 0x00)

/-- `cond(ccc)` (R191). -/
def condHolds (c : Cond) (f : Flags) : Bool :=
  match c with
  | .NZ => !f.z
  | .Z => f.z
  | .NC => !f.cy
  | .C => f.cy
  | .PO => !f.p
  | .PE => f.p
  | .P => !f.s
  | .M => f.s

end Sys2Proof.Machine
end

