-- ==== Sys2Proof/Machine/Cycles.lean ====
section
/-!
DEFINITION. The cycle count a completed step reports (70_reset_and_hazards.md R278, R279). No rule
reads it.
-/

namespace Sys2Proof.Machine

/-- The base cost of each opcode byte (R279, and the "cycles" of spec/opcode_table.json), one row of
the map of R90 a line; 0 for the undocumented bytes, which complete no step. -/
def baseCycles : List Nat :=
  [4, 10, 7, 5, 5, 5, 7, 4, 0, 10, 7, 5, 5, 5, 7, 4] ++
  [0, 10, 7, 5, 5, 5, 7, 4, 0, 10, 7, 5, 5, 5, 7, 4] ++
  [0, 10, 16, 5, 5, 5, 7, 4, 0, 10, 16, 5, 5, 5, 7, 4] ++
  [0, 10, 13, 5, 10, 10, 10, 4, 0, 10, 13, 5, 5, 5, 7, 4] ++
  [5, 5, 5, 5, 5, 5, 7, 5, 5, 5, 5, 5, 5, 5, 7, 5] ++
  [5, 5, 5, 5, 5, 5, 7, 5, 5, 5, 5, 5, 5, 5, 7, 5] ++
  [5, 5, 5, 5, 5, 5, 7, 5, 5, 5, 5, 5, 5, 5, 7, 5] ++
  [7, 7, 7, 7, 7, 7, 7, 7, 5, 5, 5, 5, 5, 5, 7, 5] ++
  [4, 4, 4, 4, 4, 4, 7, 4, 4, 4, 4, 4, 4, 4, 7, 4] ++
  [4, 4, 4, 4, 4, 4, 7, 4, 4, 4, 4, 4, 4, 4, 7, 4] ++
  [4, 4, 4, 4, 4, 4, 7, 4, 4, 4, 4, 4, 4, 4, 7, 4] ++
  [4, 4, 4, 4, 4, 4, 7, 4, 4, 4, 4, 4, 4, 4, 7, 4] ++
  [11, 10, 10, 10, 17, 11, 7, 11, 11, 10, 10, 0, 17, 17, 7, 11] ++
  [11, 10, 10, 10, 17, 11, 7, 11, 11, 0, 10, 10, 17, 0, 7, 11] ++
  [11, 10, 10, 18, 17, 11, 7, 11, 11, 5, 10, 4, 17, 0, 7, 11] ++
  [11, 10, 10, 4, 17, 11, 7, 11, 11, 5, 10, 4, 17, 0, 7, 11]

/-- The condition an instruction tests and its alternate cost, for the conditional jumps, calls and
returns (R278, R279). -/
def conditionalCost (op : Byte) : Option (Cond × Nat) :=
  match fieldX op, fieldZ op with
  | 3, 0 => some (condOfCode (fieldY op), 5)
  | 3, 2 => some (condOfCode (fieldY op), 10)
  | 3, 4 => some (condOfCode (fieldY op), 11)
  | _, _ => none

/-- Where the configuration replaces the entry of an opcode (R6 `CYCLES`). -/
def configuredCycles (c : Config) (op : Byte) : Option CycleEntry :=
  c.cycles.find? fun e => e.opcode == op

/-- The base cost of an opcode. -/
def baseCost (c : Config) (op : Byte) : Nat :=
  match configuredCycles c op with
  | some e => e.base
  | none => baseCycles.getD op.toNat 0

/-- The alternate cost of a conditional opcode whose default alternate cost is `alt`. -/
def alternateCost (c : Config) (op : Byte) (alt : Nat) : Nat :=
  match configuredCycles c op with
  | some e => e.alt
  | none => alt

/-- The cycle count of an instruction that starts with the flags `f`: the base cost, or the
alternate cost when the condition it tests is false (R278). -/
def cyclesOf (c : Config) (i : Instr) (f : Flags) : Nat :=
  match conditionalCost (opcodeOf i) with
  | some (cond, alt) =>
    if condHolds cond f then baseCost c (opcodeOf i) else alternateCost c (opcodeOf i) alt
  | none => baseCost c (opcodeOf i)

end Sys2Proof.Machine
end

