-- ==== Sys2Proof/Machine/Ops.lean ====
section
/-!
DEFINITION. The named operations over the state: the register file and its pair views (10_state.md),
the memory controller (20_memory.md), `pc`, the stack (43_stack_control.md R190), the vector entry
that `RST` and an accepted interrupt share and the return beside it (60_exceptions.md R246, R249),
the I/O port bridge (44_io_interrupt_halt.md), `Reset` (70_reset_and_hazards.md R270).
-/

namespace Sys2Proof.Machine

/-- Go on with the value of an operation that may fault; a fault ends the step (R241). -/
def attempt {α : Type} (r : Except Fault α) (k : α → Result) : Result :=
  match r with
  | .ok v => k v
  | .error f => .fault f

/-! ### Field updates -/

def State.withRegs (s : State) (g : Regs) : State := { s with regs := g }
def State.withFlags (s : State) (f : Flags) : State := { s with flags := f }
def State.withPc (s : State) (v : Word) : State := { s with pc := v }
def State.withSp (s : State) (v : Word) : State := { s with sp := v }
def State.withIe (s : State) (b : Bool) : State := { s with ie := b }
def State.withHalted (s : State) (b : Bool) : State := { s with halted := b }
def State.withMem (s : State) (m : Memory) : State := { s with mem := m }
def State.withHost (s : State) (h : HostSide) : State := { s with host := h }

/-- What the operation that completes reports to the host: a cycle count, or nothing (R278). -/
def State.withReport (s : State) (r : Option Nat) : State :=
  s.withHost { s.host with report := r }

/-- `pc <- next`: the default advance, modulo 65536 (R25, R26). -/
def State.advance (s : State) (len : Word) : State := s.withPc (s.pc + len)

/-! ### The register file (R20 to R22) -/

def Regs.get (g : Regs) : Reg → Byte
  | .A => g.a | .B => g.b | .C => g.c | .D => g.d | .E => g.e | .H => g.h | .L => g.l

def Regs.set (g : Regs) (r : Reg) (v : Byte) : Regs :=
  match r with
  | .A => { g with a := v } | .B => { g with b := v } | .C => { g with c := v }
  | .D => { g with d := v } | .E => { g with e := v } | .H => { g with h := v }
  | .L => { g with l := v }

/-- `x[r]` (R8). -/
def State.reg (s : State) (r : Reg) : Byte := s.regs.get r

/-- `x[r] <- v` (R8). -/
def State.setReg (s : State) (r : Reg) (v : Byte) : State := s.withRegs (s.regs.set r v)

/-- The register that holds bits 15:8 of a pair (R22). -/
def Pair.high : Pair → Reg
  | .BC => .B | .DE => .D | .HL => .H

/-- The register that holds bits 7:0 of a pair (R22). -/
def Pair.low : Pair → Reg
  | .BC => .C | .DE => .E | .HL => .L

/-- `pair(p)` (R22). -/
def State.pair (s : State) (p : Pair) : Word := joinBytes (s.reg (Pair.high p)) (s.reg (Pair.low p))

/-- `pair(p) <- v`: the high register, then the low one (R22). -/
def State.setPair (s : State) (p : Pair) (v : Word) : State :=
  (s.setReg (Pair.high p) (hiByte v)).setReg (Pair.low p) (loByte v)

/-- The register an identifier names, by its field code (R21, R85): 6 is no register. -/
def regOfId (id : Fin 8) : Except Fault Reg :=
  match operandOfCode id with
  | .reg r => .ok r
  | .M => .error (.unsupportedRegister id.val)

/-- The pair an identifier names, by its field code (R22, R86): 3 is no register-file pair. -/
def pairOfId (id : Fin 4) : Except Fault Pair :=
  match pairSpOfCode id with
  | .pair p => .ok p
  | .SP => .error (.unsupportedRegister id.val)

/-- The register file's read by identifier (R21). -/
def readRegId (s : State) (id : Fin 8) : Except Fault Byte :=
  match regOfId id with
  | .ok r => .ok (s.reg r)
  | .error f => .error f

/-- The register file's write by identifier (R21). -/
def writeRegId (s : State) (id : Fin 8) (v : Byte) : Except Fault State :=
  match regOfId id with
  | .ok r => .ok (s.setReg r v)
  | .error f => .error f

/-- The register file's pair read by identifier (R22). -/
def readPairId (s : State) (id : Fin 4) : Except Fault Word :=
  match pairOfId id with
  | .ok p => .ok (s.pair p)
  | .error f => .error f

/-- The register file's pair write by identifier (R22). -/
def writePairId (s : State) (id : Fin 4) (v : Word) : Except Fault State :=
  match pairOfId id with
  | .ok p => .ok (s.setPair p v)
  | .error f => .error f

/-! ### The memory array (R50) -/

/-- What a physical address with no listed byte reads as: the loader's zero fill (R64, R39, log 3). -/
def Memory.unlisted : Byte := 0

/-- One byte of the array (R53). -/
def Memory.read : Memory → Nat → Byte
  | [], _ => Memory.unlisted
  | (a, v) :: rest, p => if a = p then v else Memory.read rest p

/-- The array with an address unlisted. -/
def Memory.erase : Memory → Nat → Memory
  | [], _ => []
  | (a, w) :: rest, p => if a = p then Memory.erase rest p else (a, w) :: Memory.erase rest p

/-- The array with a byte listed, before the first higher address. -/
def Memory.insert : Memory → Nat → Byte → Memory
  | [], p, v => [(p, v)]
  | (a, w) :: rest, p, v =>
    if a < p then (a, w) :: Memory.insert rest p v else (p, v) :: (a, w) :: rest

/-- The array with one byte replaced, in canonical form (R54). -/
def Memory.write (m : Memory) (p : Nat) (v : Byte) : Memory :=
  if v = Memory.unlisted then m.erase p else (m.erase p).insert p v

/-- Addresses at least `lo` and strictly rising, no listed byte equal to `Memory.unlisted`. -/
def Memory.wfFrom : Nat → Memory → Bool
  | _, [] => true
  | lo, (a, v) :: rest =>
    decide (lo ≤ a) && decide (v ≠ Memory.unlisted) && Memory.wfFrom (a + 1) rest

/-- The canonical form: equal memories are equal lists. -/
def Memory.wf (m : Memory) : Bool := Memory.wfFrom 0 m

/-- Every listed address is below `size` (R50). -/
def Memory.within (m : Memory) (size : Nat) : Bool := m.all fun cell => decide (cell.1 < size)

/-! ### The memory controller (R52 to R56) -/

def AddrRange.contains (r : AddrRange) (p : Nat) : Bool := decide (r.first ≤ p) && decide (p ≤ r.last)

/-- Mirror translation, applied once (R52). -/
def translateAddr (c : Config) (addr : Word) : Nat :=
  match c.mirror with
  | none => addr.toNat
  | some m =>
    if AddrRange.contains m addr.toNat then addr.toNat - m.first + c.writable.first
    else addr.toNat

/-- `phys(addr)`: translation, then the range check (R52, R56). -/
def phys (c : Config) (addr : Word) : Except Fault Nat :=
  if translateAddr c addr < c.memorySize then .ok (translateAddr c addr)
  else .error (.addressOutOfRange addr)

/-- `MemRead(addr, 1)` (R53). -/
def memRead (s : State) (addr : Word) : Except Fault Byte :=
  match phys s.cfg addr with
  | .ok p => .ok (s.mem.read p)
  | .error f => .error f

/-- `MemWrite(addr, 1, v)` (R54), with write protection by policy (R55). -/
def memWrite (s : State) (addr : Word) (v : Byte) : Except Fault State :=
  match phys s.cfg addr with
  | .error f => .error f
  | .ok p =>
    if AddrRange.contains s.cfg.writable p then .ok (s.withMem (s.mem.write p v))
    else match s.cfg.writePolicy with
      | .drop => .ok s
      | .fault => .error (.writeProtected addr)

/-- `MemRead(addr, 2)`: the low byte at `addr`, then the high byte at `addr + 1` (R8, R57). -/
def readWord (s : State) (addr : Word) : Except Fault Word :=
  match memRead s addr with
  | .error f => .error f
  | .ok lo =>
    match memRead s (addr + 1) with
    | .error f => .error f
    | .ok hi => .ok (joinBytes hi lo)

/-- `MemWrite(addr, 2, v)`: the low byte at `addr`, then the high byte at `addr + 1` (R8, R57). -/
def writeWord (s : State) (addr : Word) (v : Word) : Except Fault State :=
  match memWrite s addr (loByte v) with
  | .error f => .error f
  | .ok t => memWrite t (addr + 1) (hiByte v)

/-! ### The stack (R27, R190) -/

/-- `push16(v)`: the high byte at `sp - 1`, then the low byte at `sp - 2` (R190). -/
def push16 (s : State) (v : Word) : Except Fault State :=
  match memWrite s (s.sp - 1) (hiByte v) with
  | .error f => .error f
  | .ok t =>
    match memWrite t (s.sp - 2) (loByte v) with
    | .error f => .error f
    | .ok u => .ok (u.withSp (s.sp - 2))

/-- `pop16()`: the value on top of the stack, and the state with `sp` past it (R190). -/
def pop16 (s : State) : Except Fault (Word × State) :=
  match readWord s s.sp with
  | .error f => .error f
  | .ok v => .ok (v, s.withSp (s.sp + 2))

/-! ### Entering a vector and returning (R202, R246, R249) -/

/-- The fixed address `n * 8` (R63). -/
def vectorAddress (n : Fin 8) : Word := BitVec.ofNat 16 (8 * n.val)

/-- `push16(ret); pc <- target`: what `CALL`, `RST n` and an accepted interrupt share (R198, R202,
R246). -/
def callTo (s : State) (ret target : Word) : Except Fault State :=
  match push16 s ret with
  | .error f => .error f
  | .ok t => .ok (t.withPc target)

/-- Taking an interrupt (R246): the current `pc` is pushed, IE is cleared, `pc` goes to the vector.
Nothing else is saved or changed. -/
def takeInterrupt (s : State) (n : Fin 8) : Except Fault State :=
  match callTo s s.pc (vectorAddress n) with
  | .error f => .error f
  | .ok t => .ok (t.withIe false)

/-- The return (R200, R249): `pc` is popped, nothing else is restored. -/
def returnFrom (s : State) : Except Fault State :=
  match pop16 s with
  | .error f => .error f
  | .ok (v, t) => .ok (t.withPc v)

/-- `StepInterrupt(n)`: a fault while halted (R248), ignored while IE is 0 (R247), else the entry
(R246), which reports `INT_CYCLES` (R254). -/
def interruptStep (n : Fin 8) (s : State) : Result :=
  if s.halted then .fault (.interruptWhileHalted n)
  else if s.ie then
    attempt (takeInterrupt s n) fun t => .next (t.withReport (some Config.intCycles))
  else .next (s.withReport none)

/-! ### The I/O port bridge (R220, R221) -/

/-- `IoRead(port)`: 0x00 where no handler is registered, else the next free byte (R220, log 5). -/
def ioRead (s : State) (port : Byte) : Byte :=
  if s.cfg.inPorts.contains port then Config.ioByte s.host.ioDraws port else 0

/-- The host's side after an executed `IN`: one draw used, the read recorded (R60 item 4). -/
def HostSide.recordRead (h : HostSide) (port v : Byte) : HostSide :=
  { h with ioDraws := h.ioDraws + 1, ioEvents := h.ioEvents ++ [.read port v] }

/-- The host's side after an executed `OUT`: the event `(port, v)` (R221). -/
def HostSide.recordWrite (h : HostSide) (port v : Byte) : HostSide :=
  { h with ioEvents := h.ioEvents ++ [.write port v] }

/-! ### Reset (R270) -/

/-- `Reset`: the registers, flags, `pc`, `sp`, IE and HALTED take their reset values; memory and the
configuration stay (R270). It reports no cycle count. -/
def resetOperation (s : State) : State :=
  { State.reset with mem := s.mem, cfg := s.cfg, host := { s.host with report := none } }

end Sys2Proof.Machine
end

