-- ==== Sys2Proof/Machine/Operands.lean ====
section
/-!
DEFINITION. The operand forms (30_encoding.md R85, R86): the 8-bit operand that is a register or
`M`, and the pair fields that may name `SP` or `PSW`.
-/

namespace Sys2Proof.Machine

/-- The value of an 8-bit operand: `x[r]`, or `MemRead(pair(HL), 1)` for `M` (R23, R85). -/
def readOperand (s : State) : Operand → Except Fault Byte
  | .reg r => .ok (s.reg r)
  | .M => memRead s (s.pair .HL)

/-- Write an 8-bit operand: `x[r] <- v`, or `MemWrite(pair(HL), 1, v)` for `M` (R23, R85). -/
def writeOperand (s : State) (o : Operand) (v : Byte) : Except Fault State :=
  match o with
  | .reg r => .ok (s.setReg r v)
  | .M => memWrite s (s.pair .HL) v

/-- The pair of `STAX`, `LDAX` (R86). -/
def pairOfBD : PairBD → Pair
  | .BC => .BC
  | .DE => .DE

/-- The value of the pair field of `INX`, `DCX`, `DAD`: a pair or `sp` (R86). -/
def State.pairSp (s : State) : PairSp → Word
  | .pair p => s.pair p
  | .SP => s.sp

/-- Write the pair field of `LXI`, `INX`, `DCX`: a pair or `sp` (R86). -/
def State.setPairSp (s : State) (p : PairSp) (v : Word) : State :=
  match p with
  | .pair q => s.setPair q v
  | .SP => s.withSp v

/-- The value `PUSH` pushes: a pair, or `A ++ flags_to_byte()` (R192, R193). -/
def State.pairPsw (s : State) : PairPsw → Word
  | .pair p => s.pair p
  | .PSW => joinBytes (s.reg .A) (flagsToByte s.flags)

/-- What `POP` does with the popped value: into a pair, or into A and the flags (R194, R195). -/
def State.setPairPsw (s : State) (p : PairPsw) (v : Word) : State :=
  match p with
  | .pair q => s.setPair q v
  | .PSW => (s.setReg .A (hiByte v)).withFlags (flagsOfByte (loByte v))

/-- A one-byte instruction that works on the value of its operand (R132 and the others of the shape
`10 aaa sss`): the operand is read first, then the state changes, then `pc <- next`. -/
def withOperand (f : Byte → State → State) (o : Operand) (s : State) : Result :=
  attempt (readOperand s o) fun v => .next ((f v s).advance 1)

/-- A two-byte instruction that works on its immediate byte (R133 and the others of the shape
`11 aaa 110`). -/
def withImmediate (f : Byte → State → State) (d8 : Byte) (s : State) : Result :=
  .next ((f d8 s).advance 2)

end Sys2Proof.Machine
end

