-- ==== Sys2Proof/Machine/Arithmetic.lean ====
section
/-!
DEFINITION. The arithmetic instructions (41_arithmetic.md R130 to R148). Each ends with `pc <- next`
(R26).
-/

namespace Sys2Proof.Machine

/-! ### Shared by the instructions of the family -/

/-- A and all five flags from what the adder or subtractor returned (R132). -/
def setAluResult (o : AluOut) (s : State) : State :=
  (s.setReg .A o.res).withFlags (resultFlags o.res o.cy o.ac)

/-- `add8(x[A], v, 0)` into A (R132, R133). -/
def addA (v : Byte) (s : State) : State := setAluResult (add8 (s.reg .A) v false) s

/-- `add8(x[A], v, CY)` into A (R134, R135). -/
def adcA (v : Byte) (s : State) : State := setAluResult (add8 (s.reg .A) v s.flags.cy) s

/-- `sub8(x[A], v, 0)` into A (R136, R137). -/
def subA (v : Byte) (s : State) : State := setAluResult (sub8 (s.reg .A) v false) s

/-- `sub8(x[A], v, CY)` into A (R138, R139). -/
def sbbA (v : Byte) (s : State) : State := setAluResult (sub8 (s.reg .A) v s.flags.cy) s

/-- Increment a register or `M`: the operand is read, then written, then the flags but CY are set
from the result, even where the write is dropped (R140, R141). -/
def incOperand (o : Operand) (s : State) : Result :=
  attempt (readOperand s o) fun v =>
    attempt (writeOperand s o (v + 1)) fun t =>
      .next ((t.withFlags (incFlags (v + 1) t.flags)).advance 1)

/-- Decrement a register or `M` (R142, R143). -/
def decOperand (o : Operand) (s : State) : Result :=
  attempt (readOperand s o) fun v =>
    attempt (writeOperand s o (v - 1)) fun t =>
      .next ((t.withFlags (decFlags v (v - 1) t.flags)).advance 1)

/-- Increment a pair or `sp`, no flags (R144). -/
def incPair (p : PairSp) (s : State) : Result :=
  .next ((s.setPairSp p (s.pairSp p + 1)).advance 1)

/-- Decrement a pair or `sp`, no flags (R145). -/
def decPair (p : PairSp) (s : State) : Result :=
  .next ((s.setPairSp p (s.pairSp p - 1)).advance 1)

/-- The 17-bit sum of HL and a pair or `sp` (R146). -/
def dadSum (p : PairSp) (s : State) : BitVec 17 :=
  (s.pair .HL).setWidth 17 + (s.pairSp p).setWidth 17

/-- Add a pair or `sp` to HL; only CY changes among the flags (R146). -/
def addToHl (p : PairSp) (s : State) : Result :=
  .next (((s.setPair .HL ((dadSum p s).setWidth 16)).withFlags
    { s.flags with cy := (dadSum p s).getLsbD 16 }).advance 1)

/-! ### `ADD`, `ADI` (R132, R133) -/

/-- `ADD B` (R132). -/
def execAddB (s : State) : Result := withOperand addA (.reg .B) s

/-- `ADD C` (R132). -/
def execAddC (s : State) : Result := withOperand addA (.reg .C) s

/-- `ADD D` (R132). -/
def execAddD (s : State) : Result := withOperand addA (.reg .D) s

/-- `ADD E` (R132). -/
def execAddE (s : State) : Result := withOperand addA (.reg .E) s

/-- `ADD H` (R132). -/
def execAddH (s : State) : Result := withOperand addA (.reg .H) s

/-- `ADD L` (R132). -/
def execAddL (s : State) : Result := withOperand addA (.reg .L) s

/-- `ADD A` (R132). -/
def execAddA (s : State) : Result := withOperand addA (.reg .A) s

/-- `ADD M` (R132). -/
def execAddM (s : State) : Result := withOperand addA .M s

/-- `ADI d8` (R133). -/
def execAdi (d8 : Byte) (s : State) : Result := withImmediate addA d8 s

/-! ### `ADC`, `ACI` (R134, R135) -/

/-- `ADC B` (R134). -/
def execAdcB (s : State) : Result := withOperand adcA (.reg .B) s

/-- `ADC C` (R134). -/
def execAdcC (s : State) : Result := withOperand adcA (.reg .C) s

/-- `ADC D` (R134). -/
def execAdcD (s : State) : Result := withOperand adcA (.reg .D) s

/-- `ADC E` (R134). -/
def execAdcE (s : State) : Result := withOperand adcA (.reg .E) s

/-- `ADC H` (R134). -/
def execAdcH (s : State) : Result := withOperand adcA (.reg .H) s

/-- `ADC L` (R134). -/
def execAdcL (s : State) : Result := withOperand adcA (.reg .L) s

/-- `ADC A` (R134). -/
def execAdcA (s : State) : Result := withOperand adcA (.reg .A) s

/-- `ADC M` (R134). -/
def execAdcM (s : State) : Result := withOperand adcA .M s

/-- `ACI d8` (R135). -/
def execAci (d8 : Byte) (s : State) : Result := withImmediate adcA d8 s

/-! ### `SUB`, `SUI` (R136, R137) -/

/-- `SUB B` (R136). -/
def execSubB (s : State) : Result := withOperand subA (.reg .B) s

/-- `SUB C` (R136). -/
def execSubC (s : State) : Result := withOperand subA (.reg .C) s

/-- `SUB D` (R136). -/
def execSubD (s : State) : Result := withOperand subA (.reg .D) s

/-- `SUB E` (R136). -/
def execSubE (s : State) : Result := withOperand subA (.reg .E) s

/-- `SUB H` (R136). -/
def execSubH (s : State) : Result := withOperand subA (.reg .H) s

/-- `SUB L` (R136). -/
def execSubL (s : State) : Result := withOperand subA (.reg .L) s

/-- `SUB A` (R136). -/
def execSubA (s : State) : Result := withOperand subA (.reg .A) s

/-- `SUB M` (R136). -/
def execSubM (s : State) : Result := withOperand subA .M s

/-- `SUI d8` (R137). -/
def execSui (d8 : Byte) (s : State) : Result := withImmediate subA d8 s

/-! ### `SBB`, `SBI` (R138, R139) -/

/-- `SBB B` (R138). -/
def execSbbB (s : State) : Result := withOperand sbbA (.reg .B) s

/-- `SBB C` (R138). -/
def execSbbC (s : State) : Result := withOperand sbbA (.reg .C) s

/-- `SBB D` (R138). -/
def execSbbD (s : State) : Result := withOperand sbbA (.reg .D) s

/-- `SBB E` (R138). -/
def execSbbE (s : State) : Result := withOperand sbbA (.reg .E) s

/-- `SBB H` (R138). -/
def execSbbH (s : State) : Result := withOperand sbbA (.reg .H) s

/-- `SBB L` (R138). -/
def execSbbL (s : State) : Result := withOperand sbbA (.reg .L) s

/-- `SBB A` (R138). -/
def execSbbA (s : State) : Result := withOperand sbbA (.reg .A) s

/-- `SBB M` (R138). -/
def execSbbM (s : State) : Result := withOperand sbbA .M s

/-- `SBI d8` (R139). -/
def execSbi (d8 : Byte) (s : State) : Result := withImmediate sbbA d8 s

/-! ### `INR` (R140, R141) -/

/-- `INR B` (R140). -/
def execInrB (s : State) : Result := incOperand (.reg .B) s

/-- `INR C` (R140). -/
def execInrC (s : State) : Result := incOperand (.reg .C) s

/-- `INR D` (R140). -/
def execInrD (s : State) : Result := incOperand (.reg .D) s

/-- `INR E` (R140). -/
def execInrE (s : State) : Result := incOperand (.reg .E) s

/-- `INR H` (R140). -/
def execInrH (s : State) : Result := incOperand (.reg .H) s

/-- `INR L` (R140). -/
def execInrL (s : State) : Result := incOperand (.reg .L) s

/-- `INR A` (R140). -/
def execInrA (s : State) : Result := incOperand (.reg .A) s

/-- `INR M` (R141). -/
def execInrM (s : State) : Result := incOperand .M s

/-! ### `DCR` (R142, R143) -/

/-- `DCR B` (R142). -/
def execDcrB (s : State) : Result := decOperand (.reg .B) s

/-- `DCR C` (R142). -/
def execDcrC (s : State) : Result := decOperand (.reg .C) s

/-- `DCR D` (R142). -/
def execDcrD (s : State) : Result := decOperand (.reg .D) s

/-- `DCR E` (R142). -/
def execDcrE (s : State) : Result := decOperand (.reg .E) s

/-- `DCR H` (R142). -/
def execDcrH (s : State) : Result := decOperand (.reg .H) s

/-- `DCR L` (R142). -/
def execDcrL (s : State) : Result := decOperand (.reg .L) s

/-- `DCR A` (R142). -/
def execDcrA (s : State) : Result := decOperand (.reg .A) s

/-- `DCR M` (R143). -/
def execDcrM (s : State) : Result := decOperand .M s

/-! ### `INX` (R144) -/

/-- `INX B` (R144). -/
def execInxB (s : State) : Result := incPair (.pair .BC) s

/-- `INX D` (R144). -/
def execInxD (s : State) : Result := incPair (.pair .DE) s

/-- `INX H` (R144). -/
def execInxH (s : State) : Result := incPair (.pair .HL) s

/-- `INX SP` (R144). -/
def execInxSp (s : State) : Result := incPair .SP s

/-! ### `DCX` (R145) -/

/-- `DCX B` (R145). -/
def execDcxB (s : State) : Result := decPair (.pair .BC) s

/-- `DCX D` (R145). -/
def execDcxD (s : State) : Result := decPair (.pair .DE) s

/-- `DCX H` (R145). -/
def execDcxH (s : State) : Result := decPair (.pair .HL) s

/-- `DCX SP` (R145). -/
def execDcxSp (s : State) : Result := decPair .SP s

/-! ### `DAD` (R146) -/

/-- `DAD B` (R146). -/
def execDadB (s : State) : Result := addToHl (.pair .BC) s

/-- `DAD D` (R146). -/
def execDadD (s : State) : Result := addToHl (.pair .DE) s

/-- `DAD H` (R146). -/
def execDadH (s : State) : Result := addToHl (.pair .HL) s

/-- `DAD SP` (R146). -/
def execDadSp (s : State) : Result := addToHl .SP s

end Sys2Proof.Machine
end

