-- ==== Sys2Proof/Machine/DataTransfer.lean ====
section
/-!
DEFINITION. The data-transfer instructions (40_data_transfer.md R100 to R116). None touches a flag
(R100); each ends with `pc <- next` (R26).
-/

namespace Sys2Proof.Machine

/-! ### Shared by the instructions of the family -/

/-- `x[d] <- x[r]` (R102). -/
def moveReg (d r : Reg) (s : State) : Result := .next ((s.setReg d (s.reg r)).advance 1)

/-- `x[d] <- MemRead(addr, 1)` (R103, R108, R112). -/
def loadReg (d : Reg) (addr len : Word) (s : State) : Result :=
  attempt (memRead s addr) fun v => .next ((s.setReg d v).advance len)

/-- `MemWrite(addr, 1, v)` (R104, R106, R109, R113). -/
def storeByte (addr : Word) (v : Byte) (len : Word) (s : State) : Result :=
  attempt (memWrite s addr v) fun t => .next (t.advance len)

/-- `x[d] <- d8` (R105). -/
def moveImm (d : Reg) (d8 : Byte) (s : State) : Result := .next ((s.setReg d d8).advance 2)

/-- `sp <- d16` or `pair(rp) <- d16` (R107). -/
def loadPairImm (p : PairSp) (d16 : Word) (s : State) : Result :=
  .next ((s.setPairSp p d16).advance 3)

/-- The exchange of DE and HL (R114). -/
def exchangeDeHl (s : State) : State := (s.setPair .HL (s.pair .DE)).setPair .DE (s.pair .HL)

/-- The exchange of HL and the top of the stack: both reads, then both writes (R116). -/
def exchangeStackTop (s : State) : Except Fault State :=
  match readWord s s.sp with
  | .error f => .error f
  | .ok v =>
    match writeWord s s.sp (s.pair .HL) with
    | .error f => .error f
    | .ok t => .ok (t.setPair .HL v)

/-! ### `MOV r1,r2` (R102) -/

/-- `MOV B,B` (R102). -/
def execMovBB (s : State) : Result := moveReg .B .B s

/-- `MOV B,C` (R102). -/
def execMovBC (s : State) : Result := moveReg .B .C s

/-- `MOV B,D` (R102). -/
def execMovBD (s : State) : Result := moveReg .B .D s

/-- `MOV B,E` (R102). -/
def execMovBE (s : State) : Result := moveReg .B .E s

/-- `MOV B,H` (R102). -/
def execMovBH (s : State) : Result := moveReg .B .H s

/-- `MOV B,L` (R102). -/
def execMovBL (s : State) : Result := moveReg .B .L s

/-- `MOV B,A` (R102). -/
def execMovBA (s : State) : Result := moveReg .B .A s

/-- `MOV C,B` (R102). -/
def execMovCB (s : State) : Result := moveReg .C .B s

/-- `MOV C,C` (R102). -/
def execMovCC (s : State) : Result := moveReg .C .C s

/-- `MOV C,D` (R102). -/
def execMovCD (s : State) : Result := moveReg .C .D s

/-- `MOV C,E` (R102). -/
def execMovCE (s : State) : Result := moveReg .C .E s

/-- `MOV C,H` (R102). -/
def execMovCH (s : State) : Result := moveReg .C .H s

/-- `MOV C,L` (R102). -/
def execMovCL (s : State) : Result := moveReg .C .L s

/-- `MOV C,A` (R102). -/
def execMovCA (s : State) : Result := moveReg .C .A s

/-- `MOV D,B` (R102). -/
def execMovDB (s : State) : Result := moveReg .D .B s

/-- `MOV D,C` (R102). -/
def execMovDC (s : State) : Result := moveReg .D .C s

/-- `MOV D,D` (R102). -/
def execMovDD (s : State) : Result := moveReg .D .D s

/-- `MOV D,E` (R102). -/
def execMovDE (s : State) : Result := moveReg .D .E s

/-- `MOV D,H` (R102). -/
def execMovDH (s : State) : Result := moveReg .D .H s

/-- `MOV D,L` (R102). -/
def execMovDL (s : State) : Result := moveReg .D .L s

/-- `MOV D,A` (R102). -/
def execMovDA (s : State) : Result := moveReg .D .A s

/-- `MOV E,B` (R102). -/
def execMovEB (s : State) : Result := moveReg .E .B s

/-- `MOV E,C` (R102). -/
def execMovEC (s : State) : Result := moveReg .E .C s

/-- `MOV E,D` (R102). -/
def execMovED (s : State) : Result := moveReg .E .D s

/-- `MOV E,E` (R102). -/
def execMovEE (s : State) : Result := moveReg .E .E s

/-- `MOV E,H` (R102). -/
def execMovEH (s : State) : Result := moveReg .E .H s

/-- `MOV E,L` (R102). -/
def execMovEL (s : State) : Result := moveReg .E .L s

/-- `MOV E,A` (R102). -/
def execMovEA (s : State) : Result := moveReg .E .A s

/-- `MOV H,B` (R102). -/
def execMovHB (s : State) : Result := moveReg .H .B s

/-- `MOV H,C` (R102). -/
def execMovHC (s : State) : Result := moveReg .H .C s

/-- `MOV H,D` (R102). -/
def execMovHD (s : State) : Result := moveReg .H .D s

/-- `MOV H,E` (R102). -/
def execMovHE (s : State) : Result := moveReg .H .E s

/-- `MOV H,H` (R102). -/
def execMovHH (s : State) : Result := moveReg .H .H s

/-- `MOV H,L` (R102). -/
def execMovHL (s : State) : Result := moveReg .H .L s

/-- `MOV H,A` (R102). -/
def execMovHA (s : State) : Result := moveReg .H .A s

/-- `MOV L,B` (R102). -/
def execMovLB (s : State) : Result := moveReg .L .B s

/-- `MOV L,C` (R102). -/
def execMovLC (s : State) : Result := moveReg .L .C s

/-- `MOV L,D` (R102). -/
def execMovLD (s : State) : Result := moveReg .L .D s

/-- `MOV L,E` (R102). -/
def execMovLE (s : State) : Result := moveReg .L .E s

/-- `MOV L,H` (R102). -/
def execMovLH (s : State) : Result := moveReg .L .H s

/-- `MOV L,L` (R102). -/
def execMovLL (s : State) : Result := moveReg .L .L s

/-- `MOV L,A` (R102). -/
def execMovLA (s : State) : Result := moveReg .L .A s

/-- `MOV A,B` (R102). -/
def execMovAB (s : State) : Result := moveReg .A .B s

/-- `MOV A,C` (R102). -/
def execMovAC (s : State) : Result := moveReg .A .C s

/-- `MOV A,D` (R102). -/
def execMovAD (s : State) : Result := moveReg .A .D s

/-- `MOV A,E` (R102). -/
def execMovAE (s : State) : Result := moveReg .A .E s

/-- `MOV A,H` (R102). -/
def execMovAH (s : State) : Result := moveReg .A .H s

/-- `MOV A,L` (R102). -/
def execMovAL (s : State) : Result := moveReg .A .L s

/-- `MOV A,A` (R102). -/
def execMovAA (s : State) : Result := moveReg .A .A s

/-! ### `MOV r,M` (R103) -/

/-- `MOV B,M` (R103). -/
def execMovBM (s : State) : Result := loadReg .B (s.pair .HL) 1 s

/-- `MOV C,M` (R103). -/
def execMovCM (s : State) : Result := loadReg .C (s.pair .HL) 1 s

/-- `MOV D,M` (R103). -/
def execMovDM (s : State) : Result := loadReg .D (s.pair .HL) 1 s

/-- `MOV E,M` (R103). -/
def execMovEM (s : State) : Result := loadReg .E (s.pair .HL) 1 s

/-- `MOV H,M` (R103). -/
def execMovHM (s : State) : Result := loadReg .H (s.pair .HL) 1 s

/-- `MOV L,M` (R103). -/
def execMovLM (s : State) : Result := loadReg .L (s.pair .HL) 1 s

/-- `MOV A,M` (R103). -/
def execMovAM (s : State) : Result := loadReg .A (s.pair .HL) 1 s

/-! ### `MOV M,r` (R104) -/

/-- `MOV M,B` (R104). -/
def execMovMB (s : State) : Result := storeByte (s.pair .HL) (s.reg .B) 1 s

/-- `MOV M,C` (R104). -/
def execMovMC (s : State) : Result := storeByte (s.pair .HL) (s.reg .C) 1 s

/-- `MOV M,D` (R104). -/
def execMovMD (s : State) : Result := storeByte (s.pair .HL) (s.reg .D) 1 s

/-- `MOV M,E` (R104). -/
def execMovME (s : State) : Result := storeByte (s.pair .HL) (s.reg .E) 1 s

/-- `MOV M,H` (R104). -/
def execMovMH (s : State) : Result := storeByte (s.pair .HL) (s.reg .H) 1 s

/-- `MOV M,L` (R104). -/
def execMovML (s : State) : Result := storeByte (s.pair .HL) (s.reg .L) 1 s

/-- `MOV M,A` (R104). -/
def execMovMA (s : State) : Result := storeByte (s.pair .HL) (s.reg .A) 1 s

/-! ### `MVI r,d8`, `MVI M,d8` (R105, R106) -/

/-- `MVI B,d8` (R105). -/
def execMviB (d8 : Byte) (s : State) : Result := moveImm .B d8 s

/-- `MVI C,d8` (R105). -/
def execMviC (d8 : Byte) (s : State) : Result := moveImm .C d8 s

/-- `MVI D,d8` (R105). -/
def execMviD (d8 : Byte) (s : State) : Result := moveImm .D d8 s

/-- `MVI E,d8` (R105). -/
def execMviE (d8 : Byte) (s : State) : Result := moveImm .E d8 s

/-- `MVI H,d8` (R105). -/
def execMviH (d8 : Byte) (s : State) : Result := moveImm .H d8 s

/-- `MVI L,d8` (R105). -/
def execMviL (d8 : Byte) (s : State) : Result := moveImm .L d8 s

/-- `MVI A,d8` (R105). -/
def execMviA (d8 : Byte) (s : State) : Result := moveImm .A d8 s

/-- `MVI M,d8` (R106). -/
def execMviM (d8 : Byte) (s : State) : Result := storeByte (s.pair .HL) d8 2 s

/-! ### `LXI rp,d16` (R107) -/

/-- `LXI B,d16` (R107). -/
def execLxiB (d16 : Word) (s : State) : Result := loadPairImm (.pair .BC) d16 s

/-- `LXI D,d16` (R107). -/
def execLxiD (d16 : Word) (s : State) : Result := loadPairImm (.pair .DE) d16 s

/-- `LXI H,d16` (R107). -/
def execLxiH (d16 : Word) (s : State) : Result := loadPairImm (.pair .HL) d16 s

/-- `LXI SP,d16` (R107). -/
def execLxiSp (d16 : Word) (s : State) : Result := loadPairImm .SP d16 s

/-! ### Direct and pair-addressed loads and stores (R108 to R113) -/

/-- `LDA a16` (R108). -/
def execLda (a16 : Word) (s : State) : Result := loadReg .A a16 3 s

/-- `STA a16` (R109). -/
def execSta (a16 : Word) (s : State) : Result := storeByte a16 (s.reg .A) 3 s

/-- `LHLD a16` (R110). -/
def execLhld (a16 : Word) (s : State) : Result :=
  attempt (readWord s a16) fun v => .next ((s.setPair .HL v).advance 3)

/-- `SHLD a16` (R111). -/
def execShld (a16 : Word) (s : State) : Result :=
  attempt (writeWord s a16 (s.pair .HL)) fun t => .next (t.advance 3)

/-- `LDAX B` (R112). -/
def execLdaxB (s : State) : Result := loadReg .A (s.pair (pairOfBD .BC)) 1 s

/-- `LDAX D` (R112). -/
def execLdaxD (s : State) : Result := loadReg .A (s.pair (pairOfBD .DE)) 1 s

/-- `STAX B` (R113). -/
def execStaxB (s : State) : Result := storeByte (s.pair (pairOfBD .BC)) (s.reg .A) 1 s

/-- `STAX D` (R113). -/
def execStaxD (s : State) : Result := storeByte (s.pair (pairOfBD .DE)) (s.reg .A) 1 s

/-! ### Exchanges (R114 to R116) -/

/-- `XCHG` (R114). -/
def execXchg (s : State) : Result := .next ((exchangeDeHl s).advance 1)

/-- `SPHL` (R115). -/
def execSphl (s : State) : Result := .next ((s.withSp (s.pair .HL)).advance 1)

/-- `XTHL` (R116). -/
def execXthl (s : State) : Result := attempt (exchangeStackTop s) fun t => .next (t.advance 1)

end Sys2Proof.Machine
end

