-- ==== Sys2Proof/Machine/Logical.lean ====
section
/-!
DEFINITION. The logical, compare, rotate, complement, carry and decimal-adjust instructions
(42_logical.md R160 to R177). Each ends with `pc <- next` (R26).
-/

namespace Sys2Proof.Machine

/-! ### Shared by the instructions of the family -/

/-- A and the flags of a logical result: S Z P from it, CY cleared, AC as given (R160). -/
def setLogicResult (res : Byte) (ac : Bool) (s : State) : State :=
  (s.setReg .A res).withFlags (resultFlags res false ac)

/-- `x[A] & v` into A (R161, R162). -/
def anaA (v : Byte) (s : State) : State :=
  setLogicResult (s.reg .A &&& v) (andAc s.cfg.logicAc (s.reg .A) v s.flags.ac) s

/-- `x[A] | v` into A (R163, R164). -/
def oraA (v : Byte) (s : State) : State :=
  setLogicResult (s.reg .A ||| v) (orAc s.cfg.logicAc s.flags.ac) s

/-- `x[A] ^ v` into A (R165, R166). -/
def xraA (v : Byte) (s : State) : State :=
  setLogicResult (s.reg .A ^^^ v) (orAc s.cfg.logicAc s.flags.ac) s

/-- The flags of `sub8(x[A], v, 0)`; A is not written (R167, R168). -/
def cmpA (v : Byte) (s : State) : State :=
  let o := sub8 (s.reg .A) v false
  s.withFlags (resultFlags o.res o.cy o.ac)

/-- `x[A] <- res; CY <- cy` and no other flag: the rotates (R169 to R172). -/
def setRotated (res : Byte) (cy : Bool) (s : State) : State :=
  (s.setReg .A res).withFlags { s.flags with cy := cy }

/-- `DAA` (R176). -/
def decimalAdjust (s : State) : State :=
  let a := s.reg .A
  let o := add8 a (daaCorrection a s.flags.ac s.flags.cy) false
  (s.setReg .A o.res).withFlags
    (resultFlags o.res (s.flags.cy || daaHigh a s.flags.cy) o.ac)

/-! ### `ANA`, `ANI` (R161, R162) -/

/-- `ANA B` (R161). -/
def execAnaB (s : State) : Result := withOperand anaA (.reg .B) s

/-- `ANA C` (R161). -/
def execAnaC (s : State) : Result := withOperand anaA (.reg .C) s

/-- `ANA D` (R161). -/
def execAnaD (s : State) : Result := withOperand anaA (.reg .D) s

/-- `ANA E` (R161). -/
def execAnaE (s : State) : Result := withOperand anaA (.reg .E) s

/-- `ANA H` (R161). -/
def execAnaH (s : State) : Result := withOperand anaA (.reg .H) s

/-- `ANA L` (R161). -/
def execAnaL (s : State) : Result := withOperand anaA (.reg .L) s

/-- `ANA A` (R161). -/
def execAnaA (s : State) : Result := withOperand anaA (.reg .A) s

/-- `ANA M` (R161). -/
def execAnaM (s : State) : Result := withOperand anaA .M s

/-- `ANI d8` (R162). -/
def execAni (d8 : Byte) (s : State) : Result := withImmediate anaA d8 s

/-! ### `ORA`, `ORI` (R163, R164) -/

/-- `ORA B` (R163). -/
def execOraB (s : State) : Result := withOperand oraA (.reg .B) s

/-- `ORA C` (R163). -/
def execOraC (s : State) : Result := withOperand oraA (.reg .C) s

/-- `ORA D` (R163). -/
def execOraD (s : State) : Result := withOperand oraA (.reg .D) s

/-- `ORA E` (R163). -/
def execOraE (s : State) : Result := withOperand oraA (.reg .E) s

/-- `ORA H` (R163). -/
def execOraH (s : State) : Result := withOperand oraA (.reg .H) s

/-- `ORA L` (R163). -/
def execOraL (s : State) : Result := withOperand oraA (.reg .L) s

/-- `ORA A` (R163). -/
def execOraA (s : State) : Result := withOperand oraA (.reg .A) s

/-- `ORA M` (R163). -/
def execOraM (s : State) : Result := withOperand oraA .M s

/-- `ORI d8` (R164). -/
def execOri (d8 : Byte) (s : State) : Result := withImmediate oraA d8 s

/-! ### `XRA`, `XRI` (R165, R166) -/

/-- `XRA B` (R165). -/
def execXraB (s : State) : Result := withOperand xraA (.reg .B) s

/-- `XRA C` (R165). -/
def execXraC (s : State) : Result := withOperand xraA (.reg .C) s

/-- `XRA D` (R165). -/
def execXraD (s : State) : Result := withOperand xraA (.reg .D) s

/-- `XRA E` (R165). -/
def execXraE (s : State) : Result := withOperand xraA (.reg .E) s

/-- `XRA H` (R165). -/
def execXraH (s : State) : Result := withOperand xraA (.reg .H) s

/-- `XRA L` (R165). -/
def execXraL (s : State) : Result := withOperand xraA (.reg .L) s

/-- `XRA A` (R165). -/
def execXraA (s : State) : Result := withOperand xraA (.reg .A) s

/-- `XRA M` (R165). -/
def execXraM (s : State) : Result := withOperand xraA .M s

/-- `XRI d8` (R166). -/
def execXri (d8 : Byte) (s : State) : Result := withImmediate xraA d8 s

/-! ### `CMP`, `CPI` (R167, R168) -/

/-- `CMP B` (R167). -/
def execCmpB (s : State) : Result := withOperand cmpA (.reg .B) s

/-- `CMP C` (R167). -/
def execCmpC (s : State) : Result := withOperand cmpA (.reg .C) s

/-- `CMP D` (R167). -/
def execCmpD (s : State) : Result := withOperand cmpA (.reg .D) s

/-- `CMP E` (R167). -/
def execCmpE (s : State) : Result := withOperand cmpA (.reg .E) s

/-- `CMP H` (R167). -/
def execCmpH (s : State) : Result := withOperand cmpA (.reg .H) s

/-- `CMP L` (R167). -/
def execCmpL (s : State) : Result := withOperand cmpA (.reg .L) s

/-- `CMP A` (R167). -/
def execCmpA (s : State) : Result := withOperand cmpA (.reg .A) s

/-- `CMP M` (R167). -/
def execCmpM (s : State) : Result := withOperand cmpA .M s

/-- `CPI d8` (R168). -/
def execCpi (d8 : Byte) (s : State) : Result := withImmediate cmpA d8 s

/-! ### Rotates (R169 to R172) -/

/-- `RLC` (R169). -/
def execRlc (s : State) : Result :=
  .next ((setRotated ((s.reg .A).extractLsb' 0 7 ++ BitVec.ofBool ((s.reg .A).getLsbD 7))
    ((s.reg .A).getLsbD 7) s).advance 1)

/-- `RRC` (R170). -/
def execRrc (s : State) : Result :=
  .next ((setRotated (BitVec.ofBool ((s.reg .A).getLsbD 0) ++ (s.reg .A).extractLsb' 1 7)
    ((s.reg .A).getLsbD 0) s).advance 1)

/-- `RAL` (R171). -/
def execRal (s : State) : Result :=
  .next ((setRotated ((s.reg .A).extractLsb' 0 7 ++ BitVec.ofBool s.flags.cy)
    ((s.reg .A).getLsbD 7) s).advance 1)

/-- `RAR` (R172). -/
def execRar (s : State) : Result :=
  .next ((setRotated (BitVec.ofBool s.flags.cy ++ (s.reg .A).extractLsb' 1 7)
    ((s.reg .A).getLsbD 0) s).advance 1)

/-! ### Complement, carry, decimal adjust (R173 to R176) -/

/-- `CMA` (R173). -/
def execCma (s : State) : Result := .next ((s.setReg .A (~~~(s.reg .A))).advance 1)

/-- `STC` (R174). -/
def execStc (s : State) : Result := .next ((s.withFlags { s.flags with cy := true }).advance 1)

/-- `CMC` (R175). -/
def execCmc (s : State) : Result :=
  .next ((s.withFlags { s.flags with cy := !s.flags.cy }).advance 1)

/-- `DAA` (R176). -/
def execDaa (s : State) : Result := .next ((decimalAdjust s).advance 1)

end Sys2Proof.Machine
end

