-- ==== Sys2Proof/Machine/StackControl.lean ====
section
/-!
DEFINITION. The stack and control-transfer instructions (43_stack_control.md R190 to R204). Where a
meaning does not write `pc`, it ends with `pc <- next` (R26).
-/

namespace Sys2Proof.Machine

/-! ### Shared by the instructions of the family -/

/-- `push16` of a pair or of PSW (R192, R193). -/
def pushPair (p : PairPsw) (s : State) : Result :=
  attempt (push16 s (s.pairPsw p)) fun t => .next (t.advance 1)

/-- `pop16` into a pair or into PSW (R194, R195). -/
def popPair (p : PairPsw) (s : State) : Result :=
  attempt (pop16 s) fun r => .next ((r.2.setPairPsw p r.1).advance 1)

/-- `pc <- a16` when the condition holds, else `pc <- next` (R197). -/
def jumpIf (c : Cond) (a16 : Word) (s : State) : Result :=
  .next (if condHolds c s.flags then s.withPc a16 else s.advance 3)

/-- `push16(next); pc <- a16`, `next = pc + 3` (R198). -/
def callSub (a16 : Word) (s : State) : Result :=
  attempt (callTo s (s.pc + 3) a16) fun t => .next t

/-- The call when the condition holds, else `pc <- next` and no stack access (R199). -/
def callIf (c : Cond) (a16 : Word) (s : State) : Result :=
  if condHolds c s.flags then callSub a16 s else .next (s.advance 3)

/-- `pc <- pop16()` (R200). -/
def returnSub (s : State) : Result := attempt (returnFrom s) fun t => .next t

/-- The return when the condition holds, else `pc <- next` and no stack access (R201). -/
def returnIf (c : Cond) (s : State) : Result :=
  if condHolds c s.flags then returnSub s else .next (s.advance 1)

/-- `push16(next); pc <- 8 * n`, `next = pc + 1` (R202). IE is not changed. -/
def restart (n : Fin 8) (s : State) : Result :=
  attempt (callTo s (s.pc + 1) (vectorAddress n)) fun t => .next t

/-! ### `PUSH` (R192, R193) -/

/-- `PUSH B` (R192). -/
def execPushB (s : State) : Result := pushPair (.pair .BC) s

/-- `PUSH D` (R192). -/
def execPushD (s : State) : Result := pushPair (.pair .DE) s

/-- `PUSH H` (R192). -/
def execPushH (s : State) : Result := pushPair (.pair .HL) s

/-- `PUSH PSW` (R193). -/
def execPushPsw (s : State) : Result := pushPair .PSW s

/-! ### `POP` (R194, R195) -/

/-- `POP B` (R194). -/
def execPopB (s : State) : Result := popPair (.pair .BC) s

/-- `POP D` (R194). -/
def execPopD (s : State) : Result := popPair (.pair .DE) s

/-- `POP H` (R194). -/
def execPopH (s : State) : Result := popPair (.pair .HL) s

/-- `POP PSW` (R195). -/
def execPopPsw (s : State) : Result := popPair .PSW s

/-! ### Jumps (R196, R197, R203) -/

/-- `JMP a16` (R196). -/
def execJmp (a16 : Word) (s : State) : Result := .next (s.withPc a16)

/-- `JNZ a16` (R197). -/
def execJnz (a16 : Word) (s : State) : Result := jumpIf .NZ a16 s

/-- `JZ a16` (R197). -/
def execJz (a16 : Word) (s : State) : Result := jumpIf .Z a16 s

/-- `JNC a16` (R197). -/
def execJnc (a16 : Word) (s : State) : Result := jumpIf .NC a16 s

/-- `JC a16` (R197). -/
def execJc (a16 : Word) (s : State) : Result := jumpIf .C a16 s

/-- `JPO a16` (R197). -/
def execJpo (a16 : Word) (s : State) : Result := jumpIf .PO a16 s

/-- `JPE a16` (R197). -/
def execJpe (a16 : Word) (s : State) : Result := jumpIf .PE a16 s

/-- `JP a16` (R197). -/
def execJp (a16 : Word) (s : State) : Result := jumpIf .P a16 s

/-- `JM a16` (R197). -/
def execJm (a16 : Word) (s : State) : Result := jumpIf .M a16 s

/-- `PCHL` (R203). -/
def execPchl (s : State) : Result := .next (s.withPc (s.pair .HL))

/-! ### Calls (R198, R199) -/

/-- `CALL a16` (R198). -/
def execCall (a16 : Word) (s : State) : Result := callSub a16 s

/-- `CNZ a16` (R199). -/
def execCnz (a16 : Word) (s : State) : Result := callIf .NZ a16 s

/-- `CZ a16` (R199). -/
def execCz (a16 : Word) (s : State) : Result := callIf .Z a16 s

/-- `CNC a16` (R199). -/
def execCnc (a16 : Word) (s : State) : Result := callIf .NC a16 s

/-- `CC a16` (R199). -/
def execCc (a16 : Word) (s : State) : Result := callIf .C a16 s

/-- `CPO a16` (R199). -/
def execCpo (a16 : Word) (s : State) : Result := callIf .PO a16 s

/-- `CPE a16` (R199). -/
def execCpe (a16 : Word) (s : State) : Result := callIf .PE a16 s

/-- `CP a16` (R199). -/
def execCp (a16 : Word) (s : State) : Result := callIf .P a16 s

/-- `CM a16` (R199). -/
def execCm (a16 : Word) (s : State) : Result := callIf .M a16 s

/-! ### Returns (R200, R201) -/

/-- `RET` (R200). -/
def execRet (s : State) : Result := returnSub s

/-- `RNZ` (R201). -/
def execRnz (s : State) : Result := returnIf .NZ s

/-- `RZ` (R201). -/
def execRz (s : State) : Result := returnIf .Z s

/-- `RNC` (R201). -/
def execRnc (s : State) : Result := returnIf .NC s

/-- `RC` (R201). -/
def execRc (s : State) : Result := returnIf .C s

/-- `RPO` (R201). -/
def execRpo (s : State) : Result := returnIf .PO s

/-- `RPE` (R201). -/
def execRpe (s : State) : Result := returnIf .PE s

/-- `RP` (R201). -/
def execRp (s : State) : Result := returnIf .P s

/-- `RM` (R201). -/
def execRm (s : State) : Result := returnIf .M s

/-! ### Restarts (R202) -/

/-- `RST 0` (R202). -/
def execRst0 (s : State) : Result := restart 0 s

/-- `RST 1` (R202). -/
def execRst1 (s : State) : Result := restart 1 s

/-- `RST 2` (R202). -/
def execRst2 (s : State) : Result := restart 2 s

/-- `RST 3` (R202). -/
def execRst3 (s : State) : Result := restart 3 s

/-- `RST 4` (R202). -/
def execRst4 (s : State) : Result := restart 4 s

/-- `RST 5` (R202). -/
def execRst5 (s : State) : Result := restart 5 s

/-- `RST 6` (R202). -/
def execRst6 (s : State) : Result := restart 6 s

/-- `RST 7` (R202). -/
def execRst7 (s : State) : Result := restart 7 s

end Sys2Proof.Machine
end

