-- ==== Sys2Proof/Machine/System.lean ====
section
/-!
DEFINITION. I/O, interrupt enable, halt and no-operation (44_io_interrupt_halt.md R220 to R226), and
the undocumented bytes (30_encoding.md R91).
-/

namespace Sys2Proof.Machine

/-! ### I/O (R220, R221) -/

/-- `IN p8` (R220). -/
def execInp (p8 : Byte) (s : State) : Result := .next (((s.setReg .A (ioRead s p8)).withHost
    (s.host.recordRead p8 (ioRead s p8))).advance 2)

/-- `OUT p8` (R221). -/
def execOut (p8 : Byte) (s : State) : Result :=
  .next ((s.withHost (s.host.recordWrite p8 (s.reg .A))).advance 2)

/-! ### Interrupt enable, halt, no-operation (R222 to R225) -/

/-- `EI` (R222). -/
def execEi (s : State) : Result := .next ((s.withIe true).advance 1)

/-- `DI` (R223). -/
def execDi (s : State) : Result := .next ((s.withIe false).advance 1)

/-- `HLT` (R224): `pc` stays at the HLT byte (R26 (c)). -/
def execHlt (s : State) : Result := .next (s.withHalted true)

/-- `NOP` (R225). -/
def execNop (s : State) : Result := .next (s.advance 1)

/-! ### The undocumented bytes (R91) -/

/-- An undocumented byte: `raise UnimplementedOpcode(op, pc)` (R91). -/
def execUndocumented (op : Byte) (s : State) : Result := .fault (.unimplementedOpcode op s.pc)

end Sys2Proof.Machine
end

