-- ==== Sys2Proof/Machine/Fetch.lean ====
section
/-!
DEFINITION. `Step()` (10_state.md R38): the fetch through the memory controller, the decoding, the
meaning, the report.
-/

namespace Sys2Proof.Machine

/-- Fetch and decode at `pc` (R38 items 1 to 3): the opcode, then `b2` and `b3` as far as its length
calls for them, at `pc + 1` and `pc + 2` modulo 65536 (R84, R25). -/
def fetch (s : State) : Except Fault Instr :=
  match memRead s s.pc with
  | .error f => .error f
  | .ok op =>
    match opLength op with
    | 3 =>
      match memRead s (s.pc + 1) with
      | .error f => .error f
      | .ok b2 =>
        match memRead s (s.pc + 2) with
        | .error f => .error f
        | .ok b3 => .ok (decodeOpcode op b2 b3)
    | 2 =>
      match memRead s (s.pc + 1) with
      | .error f => .error f
      | .ok b2 => .ok (decodeOpcode op b2 0)
    | _ => .ok (decodeOpcode op 0 0)

/-- What a completed step reports: `done(cycles)` (R38 item 5, R278). A faulting step reports none. -/
def reportCycles (n : Nat) (r : Result) : Result :=
  match r with
  | .next t => .next (t.withReport (some n))
  | .fault f => .fault f
  | .refused q => .refused q

/-- `Step()` (R38): a fault while halted, else fetch, decode, execute, report, in the order of
R243. -/
def instructionStep (s : State) : Result :=
  if s.halted then .fault .steppedWhileHalted
  else attempt (fetch s) fun i => reportCycles (cyclesOf s.cfg i s.flags) (exec i s)

/-- What the host requests next, and the state with that request consumed (R36, log 4). -/
def nextRequest (s : State) : HostOp × State :=
  match s.host.requests with
  | [] => (.step, s)
  | r :: rest => (r, s.withHost { s.host with requests := rest })

/-- One operation of the host on the block (R38, R246, R270). -/
def perform (r : HostOp) (s : State) : Result :=
  match r with
  | .step => instructionStep s
  | .interrupt n => interruptStep n s
  | .reset => .next (resetOperation s)

end Sys2Proof.Machine
end

