-- ==== Sys2Proof/Machine/Loader.lean ====
section
/-!
DEFINITION. Construction: which configurations are legal (20_memory.md R66), the launch state
(70_reset_and_hazards.md R271, 00_scope.md R6), and loading (R64).
-/

namespace Sys2Proof.Machine

/-- The constraints of R66, and the diagnostics mode off (decision D21). A configuration that breaks
one is refused at construction. -/
def configLegal (c : Config) : Bool :=
  decide (1 ≤ c.memorySize) && decide (c.memorySize ≤ 65536)
    && decide (c.writable.first ≤ c.writable.last) && decide (c.writable.last < c.memorySize)
    && (match c.mirror with
      | none => true
      | some m =>
        decide (m.first ≤ m.last) && decide (m.last ≤ 0xFFFF)
          && (decide (m.last < c.writable.first) || decide (c.writable.last < m.first))
          && decide (m.last - m.first ≤ c.writable.last - c.writable.first))
    && !c.diagnostics

/-- Bytes stored at physical addresses from `at0` upward, ignoring write protection and the mirror
(R64). -/
def loadBytes (m : Memory) (at0 : Nat) : List Byte → Memory
  | [] => m
  | b :: rest => loadBytes (m.write at0 b) (at0 + 1) rest

/-- The launch values of R6, last state row: everything but HALTED (decision D34). -/
structure Launch where
  regs : Regs
  flags : Flags
  pc : Word
  sp : Word
  ie : Bool
  deriving DecidableEq, Repr

/-- The launch values when the configuration gives none: the reset values (R271). -/
def defaultLaunch : Launch where
  regs := State.reset.regs
  flags := State.reset.flags
  pc := State.reset.pc
  sp := State.reset.sp
  ie := State.reset.ie

/-- Construction (R271): the array is `MEM_INIT`, the other state the launch values, Running. A
`LoadMemory` gives the whole array as `memInit` (R64). -/
def construct (c : Config) (memInit : List Byte) (l : Launch) : Result :=
  if configLegal c then
    if memInit.length = c.memorySize then
      .next { State.reset with
        regs := l.regs, flags := l.flags, pc := l.pc, sp := l.sp, ie := l.ie
        mem := loadBytes [] 0 memInit, cfg := c }
    else .refused (.imageLength memInit.length)
  else .refused .illegalConfiguration

/-- `ROM_CAPACITY` (R6, R64). -/
def romCapacity : Nat := 8192

/-- `LoadRom(bytes)` at construction (R64): a fault for an image beyond the capacity (log 11), else
the image at 0 and zeros after it. -/
def loadRom (c : Config) (bytes : List Byte) (l : Launch) : Result :=
  if configLegal c then
    if bytes.length ≤ romCapacity ∧ bytes.length ≤ c.memorySize then
      construct c (bytes ++ List.replicate (c.memorySize - bytes.length) 0) l
    else .fault (.romTooLarge bytes.length)
  else .refused .illegalConfiguration

/-- Bytes placed where a fetch at `addr` reads them, one program address after the other; a byte
whose address has no storage is not placed. Loading, so write protection does not apply (R64). -/
def placeBytes (s : State) (addr : Word) : List Byte → State
  | [] => s
  | b :: rest =>
    match phys s.cfg addr with
    | .ok p => placeBytes (s.withMem (s.mem.write p b)) (addr + 1) rest
    | .error _ => placeBytes s (addr + 1) rest

/-- The host's requests with a `Step` next (log 10). -/
def stepNext : List HostOp → List HostOp
  | [] => []
  | .step :: rest => .step :: rest
  | r :: rest => .step :: r :: rest

/-- The state in which the very next step is a `Step` that fetches `bytes` (log 10). -/
def placeInstruction (s : State) (bytes : List Byte) : State :=
  let t := placeBytes s s.pc bytes
  (t.withHalted false).withHost { t.host with requests := stepNext t.host.requests }

end Sys2Proof.Machine
end

