-- ==== Sys2Proof/Machine/Step.lean ====
section
/-!
DEFINITION. One transition of the block (decision D1): the operation that the host requests next,
performed to completion.
-/

namespace Sys2Proof.Machine

/-- One transition: `Step`, `StepInterrupt(n)` or `Reset`, as the host requests (R36, R60 item 5). -/
def step (s : State) : Host.Outcome State Fault Refusal :=
  perform (nextRequest s).1 (nextRequest s).2

/-- `s` with the instruction of the bits `w` placed where the next step fetches (log 10). -/
def State.withFetchWord (s : State) (nbits w : Nat) : State :=
  placeInstruction s (tableBytes nbits w)

end Sys2Proof.Machine
end

