-- ==== Sys2Proof/Safety.lean ====
section
/-!
DEFINITION. The terms that claims use: the invariant of the machine, when an operation completes,
which addresses can be read and stored to, what an operation leaves unchanged, what a safe run
is, and the standard cycle table.
-/

namespace Sys2Proof.Machine

/-- The invariant: a legal configuration (R66), memory in canonical form, and no listed byte outside
the array (R50). -/
def State.inv (s : State) : Bool :=
  configLegal s.cfg && s.mem.wf && s.mem.within s.cfg.memorySize

/-- A run of `k` transitions that meets no fault and no refusal (R241: a fault is the end of a run). -/
def safeRun (k : Nat) (s : State) : Prop := ∃ t, Sys2Proof.core.run k s = .next t

/-- The operation answers a next state, and that state is as `P` says. -/
def Completes (r : Result) (P : State → Prop) : Prop := ∃ t, r = .next t ∧ P t

/-- A read of `addr` succeeds: its translated address is inside the array (R56). -/
def Readable (s : State) (addr : Word) : Prop := ∃ p, phys s.cfg addr = .ok p

/-- A write to `addr` does not fault: inside the array, and inside the writable range or under the
policy `drop` (R54, R55, R56). -/
def Storable (s : State) (addr : Word) : Prop :=
  ∃ p, phys s.cfg addr = .ok p ∧
    (AddrRange.contains s.cfg.writable p = true ∨ s.cfg.writePolicy = .drop)

/-- The physical byte `q` after the writes of a list, the LATEST write first, on the memory of `s`:
each write goes to the byte that its address translates to, if that byte is writable (R54, R55). -/
def storedByte (s : State) : List (Word × Byte) → Nat → Byte
  | [], q => s.mem.read q
  | (addr, v) :: earlier, q =>
    match phys s.cfg addr with
    | .ok p =>
      if p = q ∧ AddrRange.contains s.cfg.writable p = true then v else storedByte s earlier q
    | .error _ => storedByte s earlier q

/-- Every physical byte of `t` is as the writes, the latest first, leave the memory of `s`. -/
def memoryAfter (s t : State) (writes : List (Word × Byte)) : Prop :=
  ∀ q, t.mem.read q = storedByte s writes q

/-- Only the listed registers may differ among the registers, and `sp`, memory, IE, HALTED, the
configuration and the host's side are unchanged: the frame of an instruction that stores nothing and
does not touch the stack. It says nothing of `pc` and the flags. -/
def quietBut (ds : List Reg) (s t : State) : Prop :=
  (∀ r, r ∉ ds → t.reg r = s.reg r) ∧ t.sp = s.sp ∧ (∀ q, t.mem.read q = s.mem.read q) ∧
    t.ie = s.ie ∧ t.halted = s.halted ∧ t.cfg = s.cfg ∧ t.host = s.host

/-- Memory may differ, as a claim says with `memoryAfter`, and `pc`; registers, flags, `sp`, IE, HALTED,
the configuration and the host's side are unchanged: the frame of a plain store. -/
def storeFrame (s t : State) : Prop :=
  (∀ r, t.reg r = s.reg r) ∧ t.flags = s.flags ∧ t.sp = s.sp ∧
    t.ie = s.ie ∧ t.halted = s.halted ∧ t.cfg = s.cfg ∧ t.host = s.host

/-- As `storeFrame`, but `sp` may differ as well: the frame of a push or a call. -/
def stackFrame (s t : State) : Prop :=
  (∀ r, t.reg r = s.reg r) ∧ t.flags = s.flags ∧
    t.ie = s.ie ∧ t.halted = s.halted ∧ t.cfg = s.cfg ∧ t.host = s.host

/-- Only the listed registers, `sp`, `pc` and the flags may differ: the frame of a pop or a return,
which stores nothing. -/
def popFrame (ds : List Reg) (s t : State) : Prop :=
  (∀ r, r ∉ ds → t.reg r = s.reg r) ∧ (∀ q, t.mem.read q = s.mem.read q) ∧
    t.ie = s.ie ∧ t.halted = s.halted ∧ t.cfg = s.cfg ∧ t.host = s.host

/-- `v` is the value of an 8-bit operand: the register's, or the byte that a read at `pair(HL)`
gives (R23, R85). -/
def OperandValue (s : State) (o : Operand) (v : Byte) : Prop :=
  match o with
  | .reg r => v = s.reg r
  | .M => memRead s (s.pair .HL) = .ok v

/-- A write to `addr` ends in the fault `f` (R55, R56). -/
def StoreFaults (s : State) (addr : Word) (f : Fault) : Prop :=
  phys s.cfg addr = .error f ∨
  (∃ p, phys s.cfg addr = .ok p ∧ AddrRange.contains s.cfg.writable p = false) ∧
    s.cfg.writePolicy = .fault ∧ f = .writeProtected addr

/-- The bytes at `pc`, modulo 65536, are `bs`. -/
def BytesAtPc (s : State) (bs : List Byte) : Prop :=
  ∀ k, (h : k < bs.length) → memRead s (s.pc + BitVec.ofNat 16 k) = .ok bs[k]

/-- A result with its next state changed by `f`. -/
def mapNext (f : State → State) (r : Result) : Result :=
  match r with
  | .next t => .next (f t)
  | .fault e => .fault e
  | .refused q => .refused q

/-- How many bits of a byte are 1. -/
def onesCount (v : Byte) : Nat := ((List.range 8).filter fun i => v.getLsbD i).length

/-- S, Z and P are those of the byte `v`: bit 7, zero, an even number of ones (R28, R30, R31). -/
def szpOf (f : Flags) (v : Byte) : Prop :=
  f.s = v.getLsbD 7 ∧ (f.z = true ↔ v = 0) ∧ (f.p = true ↔ onesCount v % 2 = 0)

/-- The condition of a conditional instruction, as the table of R191 has it. -/
def condTrue (c : Cond) (f : Flags) : Prop :=
  match c with
  | .NZ => f.z = false
  | .Z => f.z = true
  | .NC => f.cy = false
  | .C => f.cy = true
  | .PO => f.p = false
  | .PE => f.p = true
  | .P => f.s = false
  | .M => f.s = true

/-- The standard cycle table (R279, decision D22): one constructor a row, in the table's order, by the
shape of the row's instructions; where the row has an alternate cost, the condition of the instruction
chooses, in the flags that the step starts with (R278). -/
inductive StandardCost : Instr → Flags → Nat → Prop where
  | movRR (d r : Reg) (f : Flags) : StandardCost (Instr.movRR d r) f 5
  | movRM (d : Reg) (f : Flags) : StandardCost (Instr.movRM d) f 7
  | movMR (r : Reg) (f : Flags) : StandardCost (Instr.movMR r) f 7
  | mviR (d : Reg) (d8 : Byte) (f : Flags) : StandardCost (Instr.mvi (.reg d) d8) f 7
  | mviM (d8 : Byte) (f : Flags) : StandardCost (.mviM d8) f 10
  | lxi (p : PairSp) (d16 : Word) (f : Flags) : StandardCost (Instr.lxi p d16) f 10
  | lda (a16 : Word) (f : Flags) : StandardCost (.lda a16) f 13
  | sta (a16 : Word) (f : Flags) : StandardCost (.sta a16) f 13
  | lhld (a16 : Word) (f : Flags) : StandardCost (.lhld a16) f 16
  | shld (a16 : Word) (f : Flags) : StandardCost (.shld a16) f 16
  | ldax (p : PairBD) (f : Flags) : StandardCost (Instr.ldax p) f 7
  | stax (p : PairBD) (f : Flags) : StandardCost (Instr.stax p) f 7
  | xchg (f : Flags) : StandardCost .xchg f 4
  | sphl (f : Flags) : StandardCost .sphl f 5
  | xthl (f : Flags) : StandardCost .xthl f 18
  | aluR (op : AluOp) (r : Reg) (f : Flags) : StandardCost (Instr.alu op (.reg r)) f 4
  | aluM (op : AluOp) (f : Flags) : StandardCost (Instr.alu op .M) f 7
  | aluImm (op : AluOp) (d8 : Byte) (f : Flags) : StandardCost (Instr.aluImm op d8) f 7
  | inrR (r : Reg) (f : Flags) : StandardCost (Instr.inr (.reg r)) f 5
  | dcrR (r : Reg) (f : Flags) : StandardCost (Instr.dcr (.reg r)) f 5
  | inrM (f : Flags) : StandardCost .inrM f 10
  | dcrM (f : Flags) : StandardCost .dcrM f 10
  | inx (p : PairSp) (f : Flags) : StandardCost (Instr.inx p) f 5
  | dcx (p : PairSp) (f : Flags) : StandardCost (Instr.dcx p) f 5
  | dad (p : PairSp) (f : Flags) : StandardCost (Instr.dad p) f 10
  | rlc (f : Flags) : StandardCost .rlc f 4
  | rrc (f : Flags) : StandardCost .rrc f 4
  | ral (f : Flags) : StandardCost .ral f 4
  | rar (f : Flags) : StandardCost .rar f 4
  | cma (f : Flags) : StandardCost .cma f 4
  | stc (f : Flags) : StandardCost .stc f 4
  | cmc (f : Flags) : StandardCost .cmc f 4
  | daa (f : Flags) : StandardCost .daa f 4
  | push (p : PairPsw) (f : Flags) : StandardCost (Instr.push p) f 11
  | pop (p : PairPsw) (f : Flags) : StandardCost (Instr.pop p) f 10
  | jmp (a16 : Word) (f : Flags) : StandardCost (.jmp a16) f 10
  | jcc (c : Cond) (a16 : Word) (f : Flags) : StandardCost (Instr.jcc c a16) f 10
  | call (a16 : Word) (f : Flags) : StandardCost (.call a16) f 17
  | cccTaken (c : Cond) (a16 : Word) (f : Flags) :
      condTrue c f → StandardCost (Instr.ccc c a16) f 17
  | cccNotTaken (c : Cond) (a16 : Word) (f : Flags) :
      ¬ condTrue c f → StandardCost (Instr.ccc c a16) f 11
  | ret (f : Flags) : StandardCost .ret f 10
  | rccTaken (c : Cond) (f : Flags) : condTrue c f → StandardCost (Instr.rcc c) f 11
  | rccNotTaken (c : Cond) (f : Flags) : ¬ condTrue c f → StandardCost (Instr.rcc c) f 5
  | rst (n : Fin 8) (f : Flags) : StandardCost (Instr.rst n) f 11
  | pchl (f : Flags) : StandardCost .pchl f 5
  | inp (p8 : Byte) (f : Flags) : StandardCost (.inp p8) f 10
  | out (p8 : Byte) (f : Flags) : StandardCost (.out p8) f 10
  | ei (f : Flags) : StandardCost .ei f 4
  | di (f : Flags) : StandardCost .di f 4
  | hlt (f : Flags) : StandardCost .hlt f 7
  | nop (f : Flags) : StandardCost .nop f 4

end Sys2Proof.Machine
end

