-- ==== Sys2Proof/Certificates/Slice0/Obligations.lean ====
section
/-!
DEFINITION. The statements for the provers, each a rule of the spec or resting on the spec's
sections named in OBLIGATIONS.json. Where a statement rests on a choice of the spec's or of the
model's, its docstring says so. The terms are Safety.lean's; a statement about a whole shape of
instructions is written with the shape functions of Decode.lean (`Instr.movRR`, `Instr.alu`, ...).
-/

open Sys2Proof Sys2Proof.Machine

/-- Words written out from the opcode map decode to their instructions. Rests on 30_encoding.md
section 3 (the opcode map); 93_implementation_defined.md G1. The opcode values are the spec's own
supply (decision D3, G1; log 13). -/
def Obligations.OpcodeWordsDecode : Prop :=
  decode [0b01000001] = .ok (.movBC, []) ∧
  decode [0b00100001, 0x10, 0x20] = .ok (.lxiH 0x2010, []) ∧
  decode [0b10000110] = .ok (.addM, []) ∧
  decode [0b11111110, 0x40] = .ok (.cpi 0x40, []) ∧
  decode [0b00100111] = .ok (.daa, []) ∧
  decode [0b11110101] = .ok (.pushPsw, []) ∧
  decode [0b11010100, 0x34, 0x12] = .ok (.cnc 0x1234, []) ∧
  decode [0b11010111] = .ok (.rst2, []) ∧
  decode [0b11011011, 0x03] = .ok (.inp 0x03, []) ∧
  decode [0b01110110] = .ok (.hlt, []) ∧
  decode [0b00001000] = .ok (.undocumented 0x08, [])

/-- Decoding the encoding of a well-formed instruction gives it back. Rests on 30_encoding.md
sections 1 to 3; 93_implementation_defined.md G1. The encodings are the spec's own supply
(decision D3, G1; log 13). -/
def Obligations.DecodeInvertsEncode : Prop :=
  ∀ (i : Instr) (rest : List Byte), i.wellFormed = true →
    decode (encode i ++ rest) = .ok (i, rest)

/-- Each word has one meaning: encoding what was decoded gives the bytes back. Rests on
30_encoding.md section 4 (reserved, illegal and hint encodings); 93_implementation_defined.md G1.
That no field is reserved is the spec's own inference (marked derived there). -/
def Obligations.EncodeInvertsDecode : Prop :=
  ∀ (bs rest : List Byte) (i : Instr), decode bs = .ok (i, rest) →
    i.wellFormed = true ∧ encode i ++ rest = bs

/-- A step runs the instruction that the bytes at pc decode to. Rests on 10_state.md section 7
(the step); 30_encoding.md section 2. The request queue and the report field are the model's (log
4, log 8). -/
def Obligations.StepRunsDecodedInstruction : Prop :=
  ∀ (s : State) (bs : List Byte) (i : Instr),
    s.halted = false → (nextRequest s).1 = .step → BytesAtPc s bs →
    decode bs = .ok (i, []) → i.wellFormed = true →
    step s = reportCycles (cyclesOf s.cfg i s.flags) (exec i (nextRequest s).2)

/-- The fetch and decode faults of a step, the first failing check reported. Rests on
60_exceptions.md section 1 (order of checks); 92_eei_decisions.md D4; 92_eei_decisions.md D7. The
order of checks is the spec's own inference; the range fault and the undocumented fault are its
decisions D7 and D4 (log 14). -/
def Obligations.FetchFaultsInOrder : Prop :=
  ∀ s : State, s.halted = false → (nextRequest s).1 = .step →
    (¬ Readable s s.pc → step s = .fault (.addressOutOfRange s.pc)) ∧
    (∀ op, memRead s s.pc = .ok op →
      (undocumentedBytes.contains op = true →
        step s = .fault (.unimplementedOpcode op s.pc)) ∧
      (2 ≤ opLength op → ¬ Readable s (s.pc + 1) →
        step s = .fault (.addressOutOfRange (s.pc + 1))) ∧
      (opLength op = 3 → Readable s (s.pc + 1) → ¬ Readable s (s.pc + 2) →
        step s = .fault (.addressOutOfRange (s.pc + 2))))

/-- Executing an undocumented byte ends in UnimplementedOpcode with the byte and pc. Rests on
30_encoding.md section 4 (undocumented values); 92_eei_decisions.md D4. Which twelve bytes these
are is decision D4 (log 14). -/
def Obligations.UndocumentedOpcodeFaults : Prop :=
  ∀ (op : Byte) (s : State), (Instr.undocumented op).wellFormed = true →
    exec (.undocumented op) s = .fault (.unimplementedOpcode op s.pc)

/-- No step is refused, and none raises a loading or register-file fault. Rests on
60_exceptions.md section 1 (the fatal conditions); 10_state.md section 1; 92_eei_decisions.md D31.
That UnsupportedRegister is unreachable is the spec's own inference (D31). -/
def Obligations.StepAnswersOnlyStepFaults : Prop :=
  ∀ s : State, (∀ r, step s ≠ .refused r) ∧ (∀ n, step s ≠ .fault (.romTooLarge n)) ∧
    (∀ id, step s ≠ .fault (.unsupportedRegister id))

/-- The state after reset: registers, flags, pc, sp zero; interrupts disabled; Running. Rests on
10_state.md section 8 (reset values). The zero-filled memory is the launch with an empty image
(log 3). -/
def Obligations.ResetStateValues : Prop :=
  (∀ r, State.reset.reg r = 0) ∧
  State.reset.flags = { s := false, z := false, ac := false, p := false, cy := false } ∧
  flagsToByte State.reset.flags = 0x02 ∧ State.reset.pc = 0 ∧ State.reset.sp = 0 ∧
  State.reset.ie = false ∧ State.reset.halted = false ∧
  (∀ q, State.reset.mem.read q = 0)

/-- Reset sets the core state to its reset values and leaves memory and configuration. Rests on
70_reset_and_hazards.md section 1; 92_eei_decisions.md D18. That Reset leaves memory is decision
D18 (log 15). -/
def Obligations.ResetRequestResets : Prop :=
  ∀ s : State, (nextRequest s).1 = .reset →
    Completes (step s) fun t =>
      (∀ r, t.reg r = 0) ∧ t.flags = State.reset.flags ∧ t.pc = 0 ∧ t.sp = 0 ∧
      t.ie = false ∧ t.halted = false ∧ t.cfg = s.cfg ∧
      (∀ q, t.mem.read q = s.mem.read q)

/-- HLT sets HALTED, Reset clears it, nothing else writes it; a Step while Halted faults.
Formalises R34. -/
def Obligations.HaltedWrittenOnlyByHltAndReset : Prop :=
  ∀ s : State,
    (∀ t, step s = .next t →
      ((nextRequest s).1 = .step → fetch s = .ok .hlt → t.halted = true) ∧
      ((nextRequest s).1 = .reset → t.halted = false) ∧
      (¬ ((nextRequest s).1 = .step ∧ fetch s = .ok .hlt) → (nextRequest s).1 ≠ .reset →
        t.halted = s.halted)) ∧
    (Completes (exec .hlt s) fun t => t.halted = true) ∧
    ((nextRequest s).1 = .reset → Completes (step s) fun t => t.halted = false) ∧
    (s.halted = true → (nextRequest s).1 = .step → step s = .fault .steppedWhileHalted)

/-- EI sets IE; DI, an accepted interrupt and Reset clear it; no instruction reads it. Formalises
R33. -/
def Obligations.InterruptEnableWritersAndReaders : Prop :=
  (∀ s t : State, step s = .next t →
    ((nextRequest s).1 = .step → fetch s = .ok .ei → t.ie = true) ∧
    ((nextRequest s).1 = .step → fetch s = .ok .di → t.ie = false) ∧
    (∀ i, (nextRequest s).1 = .step → fetch s = .ok i → i ≠ .ei → i ≠ .di → t.ie = s.ie) ∧
    (∀ n, (nextRequest s).1 = .interrupt n →
      (s.halted = false ∧ s.ie = true → t.ie = false) ∧
      (¬ (s.halted = false ∧ s.ie = true) → t.ie = s.ie)) ∧
    ((nextRequest s).1 = .reset → t.ie = false)) ∧
  (∀ (i : Instr) (s : State) (b : Bool), i ≠ .ei → i ≠ .di →
    exec i (s.withIe b) = mapNext (fun t => t.withIe b) (exec i s)) ∧
  (∀ (s : State) (b : Bool),
    exec .ei (s.withIe b) = exec .ei s ∧ exec .di (s.withIe b) = exec .di s)

/-- An accepted interrupt pushes the current pc, clears IE and goes to 8*n. Formalises R246. -/
def Obligations.InterruptEntry : Prop :=
  ∀ (s : State) (n : Fin 8),
    (nextRequest s).1 = .interrupt n → s.halted = false → s.ie = true →
    Storable s (s.sp - 1) → Storable s (s.sp - 2) →
    Completes (step s) fun t =>
      t.pc = BitVec.ofNat 16 (8 * n.val) ∧ t.sp = s.sp - 2 ∧ t.ie = false ∧
      memoryAfter s t [(s.sp - 2, loByte s.pc), (s.sp - 1, hiByte s.pc)] ∧
      (∀ r, t.reg r = s.reg r) ∧ t.flags = s.flags ∧ t.halted = s.halted ∧ t.cfg = s.cfg ∧
      t.host.ioEvents = s.host.ioEvents ∧ t.host.ioDraws = s.host.ioDraws

/-- An interrupt request with IE 0 is ignored. Rests on 60_exceptions.md section 2;
90_conflicts.md C3; 92_eei_decisions.md D15. Ignoring the request is the spec's resolution of
conflict C3 (D15; log 16); the request queue and the report are the model's (log 4, log 8). -/
def Obligations.InterruptIgnoredWhileDisabled : Prop :=
  ∀ (s : State) (n : Fin 8),
    (nextRequest s).1 = .interrupt n → s.halted = false → s.ie = false →
    step s = .next ((nextRequest s).2.withReport none)

/-- An interrupt request while Halted faults, whatever IE is. Rests on 60_exceptions.md section 2;
92_eei_decisions.md D16. The fault is decision D16 (log 16). -/
def Obligations.InterruptWhileHaltedFaults : Prop :=
  ∀ (s : State) (n : Fin 8), (nextRequest s).1 = .interrupt n → s.halted = true →
    step s = .fault (.interruptWhileHalted n)

/-- RET right after an interrupt entry resumes exactly where the interrupt was taken. Rests on
60_exceptions.md section 2 (interrupt entry, return and nesting). -/
def Obligations.InterruptThenRetResumes : Prop :=
  ∀ (s u : State) (n : Fin 8) (p q : Nat), takeInterrupt s n = .ok u →
    phys s.cfg (s.sp - 1) = .ok p → phys s.cfg (s.sp - 2) = .ok q → p ≠ q →
    AddrRange.contains s.cfg.writable p = true → AddrRange.contains s.cfg.writable q = true →
    Completes (exec .ret u) fun t =>
      t.pc = s.pc ∧ t.sp = s.sp ∧ (∀ r, t.reg r = s.reg r) ∧ t.flags = s.flags ∧ t.ie = false

/-- Every transition keeps the machine's invariant. Rests on 20_memory.md sections 1 and 2;
10_state.md section 4. The canonical form is the model's (log 3). -/
def Obligations.StepKeepsInvariant : Prop :=
  ∀ s t : State, s.inv = true → step s = .next t → t.inv = true

/-- The reset state satisfies the invariant. Rests on 10_state.md section 8; 20_memory.md section
2. The canonical form is the model's (log 3). -/
def Obligations.ResetSatisfiesInvariant : Prop :=
  State.reset.inv = true

/-- Every constructed state satisfies the invariant, and an illegal configuration is refused.
Rests on 20_memory.md section 2 (configuration constraints); 70_reset_and_hazards.md section 1;
92_eei_decisions.md D8. The constraints are decision D8 (log 12). -/
def Obligations.ConstructionSatisfiesInvariant : Prop :=
  ∀ (c : Config) (bytes : List Byte) (l : Launch),
    (∀ t, construct c bytes l = .next t ∨ loadRom c bytes l = .next t →
      t.inv = true ∧ t.cfg = c ∧ t.halted = false ∧ t.regs = l.regs ∧ t.flags = l.flags ∧
      t.pc = l.pc ∧ t.sp = l.sp ∧ t.ie = l.ie) ∧
    (configLegal c = false → construct c bytes l = .refused .illegalConfiguration ∧
      loadRom c bytes l = .refused .illegalConfiguration)

/-- In a run of any length no byte outside the writable range changes, and the configuration
stays. Rests on 20_memory.md section 2 (write protection, the address map); 10_state.md section 4;
70_reset_and_hazards.md section 1; 92_eei_decisions.md D18. The run may take Reset requests: that
Reset leaves memory is decision D18 (log 15). -/
def Obligations.RomAndConfigurationNeverChange : Prop :=
  ∀ (k : Nat) (s t : State), Sys2Proof.core.run k s = .next t →
    t.cfg = s.cfg ∧
    ∀ q, AddrRange.contains s.cfg.writable q = false → t.mem.read q = s.mem.read q

/-- LoadRom places the image at 0, zero-fills the rest, and refuses an image beyond the capacity.
Rests on 20_memory.md section 2 (loading); 60_exceptions.md section 1. The fault for an image
larger than the array is the model's reading of "exceeding capacity" (log 11). -/
def Obligations.LoadRomContents : Prop :=
  ∀ (c : Config) (bytes : List Byte) (l : Launch), configLegal c = true →
    (bytes.length ≤ 8192 → bytes.length ≤ c.memorySize →
      Completes (loadRom c bytes l) fun t => ∀ q, t.mem.read q = bytes.getD q 0) ∧
    (8192 < bytes.length ∨ c.memorySize < bytes.length →
      loadRom c bytes l = .fault (.romTooLarge bytes.length))

/-- Mirror translation, applied once before the range check, lands in the writable range. Rests on
20_memory.md section 2 (mirror translation, range check); 92_eei_decisions.md D7;
92_eei_decisions.md D8. The range fault is decision D7, the legal configurations decision D8 (log
12, log 14). -/
def Obligations.MirrorTranslation : Prop :=
  ∀ (c : Config) (addr : Word),
    (∀ m, c.mirror = some m → m.first ≤ addr.toNat → addr.toNat ≤ m.last →
      (addr.toNat - m.first + c.writable.first < c.memorySize →
        phys c addr = .ok (addr.toNat - m.first + c.writable.first)) ∧
      (c.memorySize ≤ addr.toNat - m.first + c.writable.first →
        phys c addr = .error (.addressOutOfRange addr)) ∧
      (configLegal c = true → ∃ p, phys c addr = .ok p ∧
        c.writable.first ≤ p ∧ p ≤ c.writable.last)) ∧
    ((∀ m, c.mirror = some m → addr.toNat < m.first ∨ m.last < addr.toNat) →
      (addr.toNat < c.memorySize → phys c addr = .ok addr.toNat) ∧
      (c.memorySize ≤ addr.toNat → phys c addr = .error (.addressOutOfRange addr)))

/-- In the reference configuration a write to RAM reads back through its mirror, and vice versa.
Formalises R65. -/
def Obligations.MirrorAliasReadsBack : Prop :=
  ∀ (s : State) (v : Byte) (k : Nat), s.cfg = Config.reference → k < 0x2000 →
    phys s.cfg (BitVec.ofNat 16 (0x2000 + k)) = .ok (0x2000 + k) ∧
    phys s.cfg (BitVec.ofNat 16 (0x4000 + k)) = .ok (0x2000 + k) ∧
    (∃ t, memWrite s (BitVec.ofNat 16 (0x2000 + k)) v = .ok t ∧
      memRead t (BitVec.ofNat 16 (0x4000 + k)) = .ok v) ∧
    (∃ t, memWrite s (BitVec.ofNat 16 (0x4000 + k)) v = .ok t ∧
      memRead t (BitVec.ofNat 16 (0x2000 + k)) = .ok v)

/-- The memory controller's read and write: stored, dropped, or faulting, by address and policy.
Rests on 20_memory.md section 2; 92_eei_decisions.md D6; 92_eei_decisions.md D7. The two policies
and the range fault are decisions D6 and D7 (log 14). -/
def Obligations.MemoryControllerContract : Prop :=
  ∀ (s : State) (addr : Word) (v : Byte),
    (s.cfg.memorySize ≤ translateAddr s.cfg addr → memRead s addr = .error (.addressOutOfRange addr) ∧
      memWrite s addr v = .error (.addressOutOfRange addr)) ∧
    (∀ p, phys s.cfg addr = .ok p →
      memRead s addr = .ok (s.mem.read p) ∧
      (AddrRange.contains s.cfg.writable p = true →
        ∃ t, memWrite s addr v = .ok t ∧ memRead t addr = .ok v ∧
          (∀ q, q ≠ p → t.mem.read q = s.mem.read q) ∧ t = s.withMem t.mem) ∧
      (AddrRange.contains s.cfg.writable p = false → s.cfg.writePolicy = .drop →
        memWrite s addr v = .ok s) ∧
      (AddrRange.contains s.cfg.writable p = false → s.cfg.writePolicy = .fault →
        memWrite s addr v = .error (.writeProtected addr)))

/-- The packed flag byte: S Z 0 AC 0 P 1 CY, and unpacking it. Rests on 10_state.md section 3
(condition flags); 92_eei_decisions.md D20. That unpacking ignores bits 5, 3, 1 is decision D20
(log 14). -/
def Obligations.FlagByteLayout : Prop :=
  (∀ f : Flags, (flagsToByte f).getLsbD 7 = f.s ∧ (flagsToByte f).getLsbD 6 = f.z ∧
    (flagsToByte f).getLsbD 5 = false ∧ (flagsToByte f).getLsbD 4 = f.ac ∧
    (flagsToByte f).getLsbD 3 = false ∧ (flagsToByte f).getLsbD 2 = f.p ∧
    (flagsToByte f).getLsbD 1 = true ∧ (flagsToByte f).getLsbD 0 = f.cy ∧
    flagsOfByte (flagsToByte f) = f) ∧
  (∀ b : Byte, (flagsOfByte b).s = b.getLsbD 7 ∧ (flagsOfByte b).z = b.getLsbD 6 ∧
    (flagsOfByte b).ac = b.getLsbD 4 ∧ (flagsOfByte b).p = b.getLsbD 2 ∧
    (flagsOfByte b).cy = b.getLsbD 0 ∧ flagsToByte (flagsOfByte b) = (b &&& 0xD5) ||| 0x02)

/-- Parity is true exactly when the number of set bits is even. Formalises R30. -/
def Obligations.ParityIsEvenOnes : Prop :=
  (∀ v : Byte, parity v = true ↔ onesCount v % 2 = 0) ∧
  parity 0x00 = true ∧ parity 0x01 = false ∧ parity 0x03 = true ∧ parity 0xFF = true

/-- The 8-bit adder: the 9-bit sum, its carry out of bit 7 and out of bit 3. Formalises R130. -/
def Obligations.AdderIsNineBitSum : Prop :=
  ∀ (a b : Byte) (cin : Bool),
    (add8 a b cin).res.toNat = (a.toNat + b.toNat + cin.toNat) % 256 ∧
    ((add8 a b cin).cy = true ↔ a.toNat + b.toNat + cin.toNat > 255) ∧
    ((add8 a b cin).ac = true ↔ a.toNat % 16 + b.toNat % 16 + cin.toNat > 15)

/-- The 8-bit subtractor: difference modulo 256, CY the borrow, AC the absence of a borrow from
bit 4. Rests on 41_arithmetic.md, family rules (the 8-bit subtractor); 92_eei_decisions.md D9.
Both polarities are decision D9, from general knowledge G3 (log 13). -/
def Obligations.SubtractorIsBorrow : Prop :=
  ∀ (a b : Byte) (bin : Bool),
    (sub8 a b bin).res.toNat = (a.toNat + 512 - b.toNat - bin.toNat) % 256 ∧
    ((sub8 a b bin).cy = true ↔ a.toNat < b.toNat + bin.toNat) ∧
    ((sub8 a b bin).ac = true ↔ a.toNat % 16 ≥ b.toNat % 16 + bin.toNat)

/-- MOV r1,r2 copies a register and changes nothing else. Rests on 40_data_transfer.md, MOV r1,r2;
93_implementation_defined.md G2. The operands are general knowledge G2 of the spec (log 13). -/
def Obligations.MovRegister : Prop :=
  ∀ (d r : Reg) (s : State), Completes (exec (Instr.movRR d r) s) fun t =>
    t.reg d = s.reg r ∧ quietBut [d] s t ∧ t.flags = s.flags ∧ t.pc = s.pc + 1

/-- MOV r,M, LDA and LDAX load one byte into a register. Rests on 40_data_transfer.md, MOV r,M,
LDA, LDAX; 93_implementation_defined.md G2. The operands are general knowledge G2 of the spec (log
13). -/
def Obligations.ByteLoads : Prop :=
  ∀ (s : State) (v : Byte),
    (∀ d, memRead s (s.pair .HL) = .ok v → Completes (exec (Instr.movRM d) s) fun t =>
      t.reg d = v ∧ quietBut [d] s t ∧ t.flags = s.flags ∧ t.pc = s.pc + 1) ∧
    (∀ a16, memRead s a16 = .ok v → Completes (exec (.lda a16) s) fun t =>
      t.reg .A = v ∧ quietBut [.A] s t ∧ t.flags = s.flags ∧ t.pc = s.pc + 3) ∧
    (∀ p, memRead s (s.pair (pairOfBD p)) = .ok v → Completes (exec (Instr.ldax p) s) fun t =>
      t.reg .A = v ∧ quietBut [.A] s t ∧ t.flags = s.flags ∧ t.pc = s.pc + 1)

/-- MOV M,r, MVI M, STA and STAX store one byte and change nothing else. Rests on
40_data_transfer.md, MOV M,r, MVI M,d8, STA, STAX; 92_eei_decisions.md D6. The operands are
general knowledge G2 of the spec, the dropped write is decision D6 (log 13, log 14). -/
def Obligations.ByteStores : Prop :=
  ∀ s : State,
    (∀ r, Storable s (s.pair .HL) → Completes (exec (Instr.movMR r) s) fun t =>
      memoryAfter s t [(s.pair .HL, s.reg r)] ∧ storeFrame s t ∧ t.pc = s.pc + 1) ∧
    (∀ d8, Storable s (s.pair .HL) → Completes (exec (.mviM d8) s) fun t =>
      memoryAfter s t [(s.pair .HL, d8)] ∧ storeFrame s t ∧ t.pc = s.pc + 2) ∧
    (∀ a16, Storable s a16 → Completes (exec (.sta a16) s) fun t =>
      memoryAfter s t [(a16, s.reg .A)] ∧ storeFrame s t ∧ t.pc = s.pc + 3) ∧
    (∀ p, Storable s (s.pair (pairOfBD p)) → Completes (exec (Instr.stax p) s) fun t =>
      memoryAfter s t [(s.pair (pairOfBD p), s.reg .A)] ∧ storeFrame s t ∧ t.pc = s.pc + 1)

/-- MVI r and LXI load an immediate into a register, a pair or sp. Rests on 40_data_transfer.md,
MVI r,d8, LXI rp,d16; 93_implementation_defined.md G2. The operands are general knowledge G2 of
the spec (log 13). -/
def Obligations.ImmediateLoads : Prop :=
  ∀ s : State,
    (∀ d d8, Completes (exec (Instr.mvi (.reg d) d8) s) fun t =>
      t.reg d = d8 ∧ quietBut [d] s t ∧ t.flags = s.flags ∧ t.pc = s.pc + 2) ∧
    (∀ p d16, Completes (exec (Instr.lxi (.pair p) d16) s) fun t =>
      t.reg (Pair.high p) = hiByte d16 ∧ t.reg (Pair.low p) = loByte d16 ∧
      quietBut [Pair.high p, Pair.low p] s t ∧ t.flags = s.flags ∧ t.pc = s.pc + 3) ∧
    (∀ d16, Completes (exec (Instr.lxi .SP d16) s) fun t =>
      t.sp = d16 ∧ quietBut [] s (t.withSp s.sp) ∧ t.flags = s.flags ∧ t.pc = s.pc + 3)

/-- LHLD and SHLD move HL from and to two memory bytes, low byte first. Rests on
40_data_transfer.md, LHLD, SHLD; 92_eei_decisions.md D5. The byte order is decision D5, general
knowledge G12 (log 13). -/
def Obligations.HlDirectTransfers : Prop :=
  ∀ (s : State) (a16 : Word),
    (∀ lo hi, memRead s a16 = .ok lo → memRead s (a16 + 1) = .ok hi →
      Completes (exec (.lhld a16) s) fun t =>
        t.reg .L = lo ∧ t.reg .H = hi ∧ quietBut [.H, .L] s t ∧ t.flags = s.flags ∧
        t.pc = s.pc + 3) ∧
    (Storable s a16 → Storable s (a16 + 1) → Completes (exec (.shld a16) s) fun t =>
      memoryAfter s t [(a16 + 1, s.reg .H), (a16, s.reg .L)] ∧ storeFrame s t ∧
      t.pc = s.pc + 3)

/-- XCHG exchanges DE and HL; SPHL copies HL into sp. Rests on 40_data_transfer.md, XCHG, SPHL;
93_implementation_defined.md G2. The operands are general knowledge G2 of the spec (log 13). -/
def Obligations.XchgAndSphl : Prop :=
  ∀ s : State,
    (Completes (exec .xchg s) fun t =>
      t.reg .D = s.reg .H ∧ t.reg .E = s.reg .L ∧ t.reg .H = s.reg .D ∧ t.reg .L = s.reg .E ∧
      quietBut [.D, .E, .H, .L] s t ∧ t.flags = s.flags ∧ t.pc = s.pc + 1) ∧
    (Completes (exec .sphl s) fun t =>
      t.sp = s.pair .HL ∧ quietBut [] s (t.withSp s.sp) ∧ t.flags = s.flags ∧
      t.pc = s.pc + 1)

/-- XTHL exchanges HL with the 16-bit value on top of the stack. Rests on 40_data_transfer.md,
XTHL; 92_eei_decisions.md D5. The byte order is decision D5, general knowledge G12 (log 13). -/
def Obligations.XthlExchangesStackTop : Prop :=
  ∀ (s : State) (lo hi : Byte), memRead s s.sp = .ok lo → memRead s (s.sp + 1) = .ok hi →
    Storable s s.sp → Storable s (s.sp + 1) →
    Completes (exec .xthl s) fun t =>
      t.reg .L = lo ∧ t.reg .H = hi ∧ (∀ r, r ∉ [Reg.H, .L] → t.reg r = s.reg r) ∧
      memoryAfter s t [(s.sp + 1, s.reg .H), (s.sp, s.reg .L)] ∧
      t.sp = s.sp ∧ t.flags = s.flags ∧ t.pc = s.pc + 1 ∧
      t.ie = s.ie ∧ t.halted = s.halted ∧ t.cfg = s.cfg ∧ t.host = s.host

/-- No data-transfer instruction reads or writes a flag, IE or HALTED. Formalises R100. -/
def Obligations.DataTransferReadsNoFlags : Prop :=
  ∀ (s : State) (f : Flags) (b h : Bool) (i : Instr),
    (∃ d r, i = Instr.movRR d r) ∨ (∃ d, i = Instr.movRM d) ∨ (∃ r, i = Instr.movMR r) ∨
    (∃ o d8, i = Instr.mvi o d8) ∨ (∃ p d16, i = Instr.lxi p d16) ∨
    (∃ a16, i = .lda a16 ∨ i = .sta a16 ∨ i = .lhld a16 ∨ i = .shld a16) ∨
    (∃ p, i = Instr.ldax p ∨ i = Instr.stax p) ∨ i = .xchg ∨ i = .sphl ∨ i = .xthl →
    exec i (((s.withFlags f).withIe b).withHalted h)
      = mapNext (fun t => ((t.withFlags f).withIe b).withHalted h) (exec i s)

/-- ADD, ADI, ADC, ACI: sum into A, all five flags from it. Formalises R132, R133, R134, R135. -/
def Obligations.AddResults : Prop :=
  ∀ (s : State) (v : Byte) (withCy : Bool) (i : Instr) (len : Word),
    (∃ o, OperandValue s o v ∧ len = 1 ∧
      i = Instr.alu (if withCy then .adc else .add) o) ∨
    (len = 2 ∧ i = Instr.aluImm (if withCy then .adc else .add) v) →
    Completes (exec i s) fun t =>
      (t.reg .A).toNat
        = ((s.reg .A).toNat + v.toNat + (withCy && s.flags.cy).toNat) % 256 ∧
      (t.flags.cy = true ↔
        (s.reg .A).toNat + v.toNat + (withCy && s.flags.cy).toNat > 255) ∧
      (t.flags.ac = true ↔
        (s.reg .A).toNat % 16 + v.toNat % 16 + (withCy && s.flags.cy).toNat > 15) ∧
      szpOf t.flags (t.reg .A) ∧ quietBut [.A] s t ∧ t.pc = s.pc + len

/-- SUB, SUI, SBB, SBI: difference into A, CY the borrow, all five flags. Rests on
41_arithmetic.md, SUB, SUI, SBB, SBI; 92_eei_decisions.md D9. The polarities of CY and AC are
decision D9, general knowledge G3 (log 13). -/
def Obligations.SubResults : Prop :=
  ∀ (s : State) (v : Byte) (withCy : Bool) (i : Instr) (len : Word),
    (∃ o, OperandValue s o v ∧ len = 1 ∧
      i = Instr.alu (if withCy then .sbb else .sub) o) ∨
    (len = 2 ∧ i = Instr.aluImm (if withCy then .sbb else .sub) v) →
    Completes (exec i s) fun t =>
      (t.reg .A).toNat
        = ((s.reg .A).toNat + 512 - v.toNat - (withCy && s.flags.cy).toNat) % 256 ∧
      (t.flags.cy = true ↔ (s.reg .A).toNat < v.toNat + (withCy && s.flags.cy).toNat) ∧
      (t.flags.ac = true ↔
        (s.reg .A).toNat % 16 ≥ v.toNat % 16 + (withCy && s.flags.cy).toNat) ∧
      szpOf t.flags (t.reg .A) ∧ quietBut [.A] s t ∧ t.pc = s.pc + len

/-- INR r and INR M: increment, S Z AC P from the result, CY unchanged. Formalises R140, R141. -/
def Obligations.InrResults : Prop :=
  ∀ s : State,
    (∀ r, Completes (exec (Instr.inr (.reg r)) s) fun t =>
      (t.reg r).toNat = ((s.reg r).toNat + 1) % 256 ∧ szpOf t.flags (t.reg r) ∧
      (t.flags.ac = true ↔ (t.reg r).toNat % 16 = 0) ∧ t.flags.cy = s.flags.cy ∧
      quietBut [r] s t ∧ t.pc = s.pc + 1) ∧
    (∀ v, memRead s (s.pair .HL) = .ok v → Storable s (s.pair .HL) →
      Completes (exec .inrM s) fun t =>
        memoryAfter s t [(s.pair .HL, v + 1)] ∧ szpOf t.flags (v + 1) ∧
        (t.flags.ac = true ↔ (v + 1).toNat % 16 = 0) ∧ t.flags.cy = s.flags.cy ∧
        storeFrame s (t.withFlags s.flags) ∧ t.pc = s.pc + 1)

/-- DCR r and DCR M: decrement, S Z AC P, CY unchanged. Rests on 41_arithmetic.md, DCR r, DCR M.
The AC of a decrement is the spec's own inference from its subtractor (decision D9; log 13). -/
def Obligations.DcrResults : Prop :=
  ∀ s : State,
    (∀ r, Completes (exec (Instr.dcr (.reg r)) s) fun t =>
      (t.reg r).toNat = ((s.reg r).toNat + 255) % 256 ∧ szpOf t.flags (t.reg r) ∧
      (t.flags.ac = true ↔ (s.reg r).toNat % 16 ≠ 0) ∧ t.flags.cy = s.flags.cy ∧
      quietBut [r] s t ∧ t.pc = s.pc + 1) ∧
    (∀ v, memRead s (s.pair .HL) = .ok v → Storable s (s.pair .HL) →
      Completes (exec .dcrM s) fun t =>
        memoryAfter s t [(s.pair .HL, v - 1)] ∧ szpOf t.flags (v - 1) ∧
        (t.flags.ac = true ↔ v.toNat % 16 ≠ 0) ∧ t.flags.cy = s.flags.cy ∧
        storeFrame s (t.withFlags s.flags) ∧ t.pc = s.pc + 1)

/-- INX and DCX: a pair or sp plus or minus 1 modulo 65536, no flags. Formalises R144, R145. -/
def Obligations.InxAndDcx : Prop :=
  ∀ s : State,
    (∀ p, Completes (exec (Instr.inx (.pair p)) s) fun t =>
      (t.pair p).toNat = ((s.pair p).toNat + 1) % 65536 ∧
      quietBut [Pair.high p, Pair.low p] s t ∧ t.flags = s.flags ∧ t.pc = s.pc + 1) ∧
    (Completes (exec (Instr.inx .SP) s) fun t => t.sp.toNat = (s.sp.toNat + 1) % 65536 ∧
      quietBut [] s (t.withSp s.sp) ∧ t.flags = s.flags ∧ t.pc = s.pc + 1) ∧
    (∀ p, Completes (exec (Instr.dcx (.pair p)) s) fun t =>
      (t.pair p).toNat = ((s.pair p).toNat + 65535) % 65536 ∧
      quietBut [Pair.high p, Pair.low p] s t ∧ t.flags = s.flags ∧ t.pc = s.pc + 1) ∧
    (Completes (exec (Instr.dcx .SP) s) fun t => t.sp.toNat = (s.sp.toNat + 65535) % 65536 ∧
      quietBut [] s (t.withSp s.sp) ∧ t.flags = s.flags ∧ t.pc = s.pc + 1)

/-- DAD adds a pair or sp to HL; only CY changes among the flags. Formalises R146. -/
def Obligations.DadResults : Prop :=
  ∀ (s : State) (p : PairSp) (src : Word),
    (p = .SP ∧ src = s.sp) ∨ (∃ q, p = .pair q ∧ src = s.pair q) →
    Completes (exec (Instr.dad p) s) fun t =>
      (t.pair .HL).toNat = ((s.pair .HL).toNat + src.toNat) % 65536 ∧
      (t.flags.cy = true ↔ (s.pair .HL).toNat + src.toNat > 65535) ∧
      t.flags.s = s.flags.s ∧ t.flags.z = s.flags.z ∧ t.flags.ac = s.flags.ac ∧
      t.flags.p = s.flags.p ∧ quietBut [.H, .L] s t ∧ t.pc = s.pc + 1

/-- ANA ANI, ORA ORI, XRA XRI: bitwise result into A, CY cleared, AC by policy. Rests on
42_logical.md, ANA, ANI, ORA, ORI, XRA, XRI; 92_eei_decisions.md D10. AC is the parameter of
decision D10; the statement holds for each of its values (log 1, log 13). -/
def Obligations.LogicResults : Prop :=
  ∀ (s : State) (v : Byte) (op : AluOp) (i : Instr) (len : Word),
    (∃ o, OperandValue s o v ∧ len = 1 ∧ i = Instr.alu op o) ∨
    (len = 2 ∧ i = Instr.aluImm op v) →
    op = .ana ∨ op = .ora ∨ op = .xra →
    Completes (exec i s) fun t =>
      (∀ k, (t.reg .A).getLsbD k
        = if op = .ana then (s.reg .A).getLsbD k && v.getLsbD k
          else if op = .ora then (s.reg .A).getLsbD k || v.getLsbD k
          else (s.reg .A).getLsbD k ^^ v.getLsbD k) ∧
      szpOf t.flags (t.reg .A) ∧ t.flags.cy = false ∧
      (s.cfg.logicAc = .i8080 → t.flags.ac
        = (decide (op = .ana) && ((s.reg .A).getLsbD 3 || v.getLsbD 3))) ∧
      (s.cfg.logicAc = .clear → t.flags.ac = false) ∧
      (s.cfg.logicAc = .unchanged → t.flags.ac = s.flags.ac) ∧
      quietBut [.A] s t ∧ t.pc = s.pc + len

/-- CMP and CPI: the flags of A - v, A unchanged. Rests on 42_logical.md, CMP, CPI;
92_eei_decisions.md D9; 92_eei_decisions.md D11. That AC is written is decision D11, its polarity
decision D9 (log 13). -/
def Obligations.CompareResults : Prop :=
  ∀ (s : State) (v : Byte) (i : Instr) (len : Word),
    (∃ o, OperandValue s o v ∧ len = 1 ∧ i = Instr.alu .cmp o) ∨ (len = 2 ∧ i = .cpi v) →
    Completes (exec i s) fun t =>
      (t.flags.z = true ↔ s.reg .A = v) ∧
      (t.flags.cy = true ↔ (s.reg .A).toNat < v.toNat) ∧
      (t.flags.ac = true ↔ (s.reg .A).toNat % 16 ≥ v.toNat % 16) ∧
      szpOf t.flags (s.reg .A - v) ∧ quietBut [] s t ∧ t.pc = s.pc + len

/-- RLC RRC RAL RAR: each bit of A moves one place, CY the bit shifted out. Rests on
42_logical.md, RLC, RRC, RAL, RAR; 92_eei_decisions.md D12. Direction, linkage and AC unchanged
are decision D12, general knowledge G5 (log 13). -/
def Obligations.RotateResults : Prop :=
  ∀ (s : State) (i : Instr), i = .rlc ∨ i = .rrc ∨ i = .ral ∨ i = .rar →
    Completes (exec i s) fun t =>
      (i = .rlc → (∀ k, k < 7 → (t.reg .A).getLsbD (k + 1) = (s.reg .A).getLsbD k) ∧
        (t.reg .A).getLsbD 0 = (s.reg .A).getLsbD 7 ∧ t.flags.cy = (s.reg .A).getLsbD 7) ∧
      (i = .rrc → (∀ k, k < 7 → (t.reg .A).getLsbD k = (s.reg .A).getLsbD (k + 1)) ∧
        (t.reg .A).getLsbD 7 = (s.reg .A).getLsbD 0 ∧ t.flags.cy = (s.reg .A).getLsbD 0) ∧
      (i = .ral → (∀ k, k < 7 → (t.reg .A).getLsbD (k + 1) = (s.reg .A).getLsbD k) ∧
        (t.reg .A).getLsbD 0 = s.flags.cy ∧ t.flags.cy = (s.reg .A).getLsbD 7) ∧
      (i = .rar → (∀ k, k < 7 → (t.reg .A).getLsbD k = (s.reg .A).getLsbD (k + 1)) ∧
        (t.reg .A).getLsbD 7 = s.flags.cy ∧ t.flags.cy = (s.reg .A).getLsbD 0) ∧
      t.flags.s = s.flags.s ∧ t.flags.z = s.flags.z ∧ t.flags.ac = s.flags.ac ∧
      t.flags.p = s.flags.p ∧ quietBut [.A] s t ∧ t.pc = s.pc + 1

/-- CMA complements A, STC sets CY, CMC toggles it; no other flag changes. Formalises R173, R174,
R175. -/
def Obligations.ComplementAndCarry : Prop :=
  ∀ s : State,
    (Completes (exec .cma s) fun t =>
      (∀ k, k < 8 → (t.reg .A).getLsbD k = !(s.reg .A).getLsbD k) ∧
      t.flags = s.flags ∧ quietBut [.A] s t ∧ t.pc = s.pc + 1) ∧
    (Completes (exec .stc s) fun t => t.flags = { s.flags with cy := true } ∧
      quietBut [] s t ∧ t.pc = s.pc + 1) ∧
    (Completes (exec .cmc s) fun t => t.flags = { s.flags with cy := !s.flags.cy } ∧
      quietBut [] s t ∧ t.pc = s.pc + 1)

/-- DAA is the two-step decimal correction, both additions carried out in 9 bits. Rests on
42_logical.md, DAA; 92_eei_decisions.md D13. The algorithm is decision D13, general knowledge G6;
the equality of its two forms is the spec's own inference (log 13). -/
def Obligations.DaaTwoStep : Prop :=
  ∀ (s : State) (low first second : Nat),
    low = (if (s.reg .A).toNat % 16 > 9 ∨ s.flags.ac = true then 6 else 0) →
    first = (s.reg .A).toNat + low →
    second = first + (if first / 16 > 9 ∨ s.flags.cy = true then 0x60 else 0) →
    Completes (exec .daa s) fun t =>
      (t.reg .A).toNat = second % 256 ∧
      (t.flags.cy = true ↔ s.flags.cy = true ∨ second > 255) ∧
      (t.flags.ac = true ↔ (s.reg .A).toNat % 16 + low > 15) ∧
      szpOf t.flags (t.reg .A) ∧ quietBut [.A] s t ∧ t.pc = s.pc + 1

/-- PUSH B, D, H: the high register to sp-1, the low register to sp-2, sp less 2. Formalises R192.
-/
def Obligations.PushPairs : Prop :=
  ∀ (s : State) (p : Pair), Storable s (s.sp - 1) → Storable s (s.sp - 2) →
    Completes (exec (Instr.push (.pair p)) s) fun t =>
      memoryAfter s t [(s.sp - 2, s.reg (Pair.low p)), (s.sp - 1, s.reg (Pair.high p))] ∧
      t.sp = s.sp - 2 ∧ stackFrame s t ∧ t.pc = s.pc + 1

/-- POP B, D, H: the low register from sp, the high register from sp+1, sp plus 2. Formalises
R194. -/
def Obligations.PopPairs : Prop :=
  ∀ (s : State) (p : Pair) (lo hi : Byte),
    memRead s s.sp = .ok lo → memRead s (s.sp + 1) = .ok hi →
    Completes (exec (Instr.pop (.pair p)) s) fun t =>
      t.reg (Pair.low p) = lo ∧ t.reg (Pair.high p) = hi ∧ t.sp = s.sp + 2 ∧
      popFrame [Pair.high p, Pair.low p] s t ∧ t.flags = s.flags ∧ t.pc = s.pc + 1

/-- PUSH PSW stores A and the flag byte; POP PSW restores both. Rests on 43_stack_control.md, PUSH
PSW, POP PSW; 92_eei_decisions.md D27. That A is the high byte is decision D27, general knowledge
G7 (log 13). -/
def Obligations.PswPushAndPop : Prop :=
  ∀ s : State,
    (Storable s (s.sp - 1) → Storable s (s.sp - 2) → Completes (exec .pushPsw s) fun t =>
      memoryAfter s t [(s.sp - 2, flagsToByte s.flags), (s.sp - 1, s.reg .A)] ∧
      t.sp = s.sp - 2 ∧ stackFrame s t ∧ t.pc = s.pc + 1) ∧
    (∀ lo hi, memRead s s.sp = .ok lo → memRead s (s.sp + 1) = .ok hi →
      Completes (exec .popPsw s) fun t =>
        t.reg .A = hi ∧ t.flags.s = lo.getLsbD 7 ∧ t.flags.z = lo.getLsbD 6 ∧
        t.flags.ac = lo.getLsbD 4 ∧ t.flags.p = lo.getLsbD 2 ∧ t.flags.cy = lo.getLsbD 0 ∧
        t.sp = s.sp + 2 ∧ popFrame [.A] s t ∧ t.pc = s.pc + 1)

/-- JMP, the conditional jumps and PCHL set pc and nothing else. Rests on 43_stack_control.md,
JMP, Jcc, PCHL; 92_eei_decisions.md D32. The flag each condition tests is decision D32, PCHL
general knowledge G2 (log 13). -/
def Obligations.Jumps : Prop :=
  ∀ s : State,
    (∀ a16, Completes (exec (.jmp a16) s) fun t =>
      t.pc = a16 ∧ quietBut [] s t ∧ t.flags = s.flags) ∧
    (∀ c a16, Completes (exec (Instr.jcc c a16) s) fun t =>
      (condTrue c s.flags → t.pc = a16) ∧ (¬ condTrue c s.flags → t.pc = s.pc + 3) ∧
      quietBut [] s t ∧ t.flags = s.flags) ∧
    (Completes (exec .pchl s) fun t =>
      t.pc = s.pair .HL ∧ quietBut [] s t ∧ t.flags = s.flags)

/-- CALL and a taken conditional call push pc+3 and jump; not taken they touch no stack. Rests on
43_stack_control.md, CALL, Ccc; 93_implementation_defined.md G13; 92_eei_decisions.md D32. The
return address is general knowledge G13, the conditions decision D32 (log 13). -/
def Obligations.Calls : Prop :=
  ∀ (s : State) (a16 : Word) (c : Cond),
    (∀ i, i = .call a16 ∨ (i = Instr.ccc c a16 ∧ condTrue c s.flags) →
      Storable s (s.sp - 1) → Storable s (s.sp - 2) →
      Completes (exec i s) fun t => t.pc = a16 ∧ t.sp = s.sp - 2 ∧
        memoryAfter s t
          [(s.sp - 2, loByte (s.pc + 3)), (s.sp - 1, hiByte (s.pc + 3))] ∧
        stackFrame s t) ∧
    (¬ condTrue c s.flags → Completes (exec (Instr.ccc c a16) s) fun t =>
      t.pc = s.pc + 3 ∧ quietBut [] s t ∧ t.flags = s.flags)

/-- RET and a taken conditional return pop pc; not taken they touch no stack. Rests on
43_stack_control.md, RET, Rcc; 92_eei_decisions.md D32. The flag each condition tests is decision
D32 (log 13). -/
def Obligations.Returns : Prop :=
  ∀ (s : State) (c : Cond),
    (∀ i lo hi, i = .ret ∨ (i = Instr.rcc c ∧ condTrue c s.flags) →
      memRead s s.sp = .ok lo → memRead s (s.sp + 1) = .ok hi →
      Completes (exec i s) fun t => t.pc.toNat = 256 * hi.toNat + lo.toNat ∧
        t.sp = s.sp + 2 ∧ popFrame [] s t ∧ t.flags = s.flags) ∧
    (¬ condTrue c s.flags → Completes (exec (Instr.rcc c) s) fun t =>
      t.pc = s.pc + 1 ∧ quietBut [] s t ∧ t.flags = s.flags)

/-- RST n pushes pc+1 and jumps to 8*n; IE is unchanged. Rests on 43_stack_control.md, RST n;
93_implementation_defined.md G13. The return address is general knowledge G13 (log 13). -/
def Obligations.Restarts : Prop :=
  ∀ (s : State) (n : Fin 8), Storable s (s.sp - 1) → Storable s (s.sp - 2) →
    Completes (exec (Instr.rst n) s) fun t =>
      t.pc.toNat = 8 * n.val ∧ t.sp = s.sp - 2 ∧
      memoryAfter s t [(s.sp - 2, loByte (s.pc + 1)), (s.sp - 1, hiByte (s.pc + 1))] ∧
      stackFrame s t

/-- IN loads A from the port, 0 where no device is; OUT hands A to the port. Rests on
44_io_interrupt_halt.md, IN, OUT; 92_eei_decisions.md D23. The port number is decision D23; the
free byte, its counter and the event list are the model's (log 5, log 7). -/
def Obligations.InputAndOutput : Prop :=
  ∀ (s : State) (p8 : Byte),
    (Completes (exec (.inp p8) s) fun t =>
      (p8 ∉ s.cfg.inPorts → t.reg .A = 0) ∧
      (p8 ∈ s.cfg.inPorts → t.reg .A = Config.ioByte s.host.ioDraws p8) ∧
      t.host = { s.host with
        ioDraws := s.host.ioDraws + 1
        ioEvents := s.host.ioEvents ++ [.read p8 (t.reg .A)] } ∧
      quietBut [.A] s (t.withHost s.host) ∧ t.flags = s.flags ∧ t.pc = s.pc + 2) ∧
    (Completes (exec (.out p8) s) fun t =>
      t.host = { s.host with ioEvents := s.host.ioEvents ++ [.write p8 (s.reg .A)] } ∧
      quietBut [] s (t.withHost s.host) ∧ t.flags = s.flags ∧ t.pc = s.pc + 2)

/-- EI, DI, HLT and NOP: IE set, IE cleared, HALTED set with pc kept, nothing. Rests on
44_io_interrupt_halt.md, EI, DI, HLT, NOP; 90_conflicts.md C1; 92_eei_decisions.md D17;
92_eei_decisions.md D26. EI at once is decision D17, the pc of HLT decision D14 (conflict C1), NOP
decision D26 (log 13, log 16). -/
def Obligations.EnableHaltNop : Prop :=
  ∀ s : State,
    (Completes (exec .ei s) fun t => t.ie = true ∧ quietBut [] s (t.withIe s.ie) ∧
      t.flags = s.flags ∧ t.pc = s.pc + 1) ∧
    (Completes (exec .di s) fun t => t.ie = false ∧ quietBut [] s (t.withIe s.ie) ∧
      t.flags = s.flags ∧ t.pc = s.pc + 1) ∧
    (Completes (exec .hlt s) fun t => t.halted = true ∧
      quietBut [] s (t.withHalted s.halted) ∧ t.flags = s.flags ∧ t.pc = s.pc) ∧
    (Completes (exec .nop s) fun t => quietBut [] s t ∧ t.flags = s.flags ∧
      t.pc = s.pc + 1)

/-- IN, OUT, EI, DI, HLT, NOP read and write no flag, access no memory, and never fault.
Formalises R226. -/
def Obligations.IoFamilyTouchesNoFlags : Prop :=
  ∀ (s : State) (f : Flags) (m : Memory) (i : Instr),
    (∃ p8, i = .inp p8 ∨ i = .out p8) ∨ i = .ei ∨ i = .di ∨ i = .hlt ∨ i = .nop →
    exec i ((s.withFlags f).withMem m)
      = mapNext (fun t => (t.withFlags f).withMem m) (exec i s) ∧
    Completes (exec i s) fun t => t.flags = s.flags ∧ t.mem = s.mem

/-- An instruction whose data read is out of range faults with that address. Rests on
40_data_transfer.md, family rules; 41_arithmetic.md, family rules; 42_logical.md, family rules;
43_stack_control.md, family rules; 60_exceptions.md section 1 (order of checks);
92_eei_decisions.md D7. That the first byte is read before the second is the order of checks of
R243, which the spec marks as its own inference; the range fault is decision D7 (log 14). -/
def Obligations.DataReadFaults : Prop :=
  ∀ s : State,
    (¬ Readable s (s.pair .HL) → ∀ i,
      (∃ d, i = Instr.movRM d) ∨ (∃ op, i = Instr.alu op .M) ∨ i = .inrM ∨ i = .dcrM →
      exec i s = .fault (.addressOutOfRange (s.pair .HL))) ∧
    (∀ a16, ¬ Readable s a16 → exec (.lda a16) s = .fault (.addressOutOfRange a16)) ∧
    (∀ p, ¬ Readable s (s.pair (pairOfBD p)) →
      exec (Instr.ldax p) s = .fault (.addressOutOfRange (s.pair (pairOfBD p)))) ∧
    (∀ (a16 : Word) (i : Instr), i = .lhld a16 ∨
        (a16 = s.sp ∧ ((∃ p, i = Instr.pop p) ∨ i = .ret ∨ i = .xthl ∨
          ∃ c, i = Instr.rcc c ∧ condTrue c s.flags)) →
      (¬ Readable s a16 → exec i s = .fault (.addressOutOfRange a16)) ∧
      (Readable s a16 → ¬ Readable s (a16 + 1) →
        exec i s = .fault (.addressOutOfRange (a16 + 1))))

/-- An instruction whose data write faults reports the first write that fails. Rests on
40_data_transfer.md, family rules; 41_arithmetic.md, family rules; 43_stack_control.md, family
rules; 60_exceptions.md section 1 (order of checks); 92_eei_decisions.md D6; 92_eei_decisions.md
D7. That the reads come before the writes, and that the first failing write is the one reported,
is the order of checks of R243, which the spec marks as its own inference; the two faults are
decisions D6 and D7 (log 14). -/
def Obligations.DataWriteFaults : Prop :=
  ∀ (s : State) (f : Fault),
    (StoreFaults s (s.pair .HL) f → ∀ i,
      (∃ r, i = Instr.movMR r) ∨ (∃ d8, i = .mviM d8) ∨
        (Readable s (s.pair .HL) ∧ (i = .inrM ∨ i = .dcrM)) → exec i s = .fault f) ∧
    (∀ a16, StoreFaults s a16 f → exec (.sta a16) s = .fault f) ∧
    (∀ p, StoreFaults s (s.pair (pairOfBD p)) f → exec (Instr.stax p) s = .fault f) ∧
    (∀ (a16 : Word) (i : Instr), i = .shld a16 ∨
        (a16 = s.sp ∧ i = .xthl ∧ Readable s s.sp ∧ Readable s (s.sp + 1)) →
      (StoreFaults s a16 f → exec i s = .fault f) ∧
      (Storable s a16 → StoreFaults s (a16 + 1) f → exec i s = .fault f)) ∧
    (∀ i : Instr, (∃ p, i = Instr.push p) ∨ (∃ a16, i = .call a16) ∨
        (∃ n, i = Instr.rst n) ∨ (∃ c a16, i = Instr.ccc c a16 ∧ condTrue c s.flags) →
      (StoreFaults s (s.sp - 1) f → exec i s = .fault f) ∧
      (Storable s (s.sp - 1) → StoreFaults s (s.sp - 2) f → exec i s = .fault f))

/-- A completed step reports the base cost, or the alternate cost when its condition is false.
Rests on 70_reset_and_hazards.md section 4 (instruction timing); 92_eei_decisions.md D22. The
standard table (StandardCost, the rows of R279) is decision D22, general knowledge G10 but for
four values; that the first of several entries counts is the model's (log 9, log 13). -/
def Obligations.CycleReport : Prop :=
  (∀ (s t : State) (i : Instr), (nextRequest s).1 = .step → fetch s = .ok i →
    step s = .next t → ∃ n, t.host.report = some n ∧
      ((∀ e ∈ s.cfg.cycles, e.opcode ≠ opcodeOf i) → StandardCost i s.flags n) ∧
      (∀ before e after, s.cfg.cycles = before ++ e :: after → e.opcode = opcodeOf i →
        (∀ d ∈ before, d.opcode ≠ opcodeOf i) →
        (∀ c a16, i = Instr.jcc c a16 ∨ i = Instr.ccc c a16 ∨ i = Instr.rcc c →
          (condTrue c s.flags → n = e.base) ∧ (¬ condTrue c s.flags → n = e.alt)) ∧
        ((∀ c a16, i ≠ Instr.jcc c a16 ∧ i ≠ Instr.ccc c a16 ∧ i ≠ Instr.rcc c) →
          n = e.base))) ∧
  (∀ (c : Config) (i : Instr) (f : Flags), (∀ op, i ≠ .undocumented op) →
    (∀ e ∈ c.cycles, e.opcode ≠ opcodeOf i) → StandardCost i f (cyclesOf c i f))

/-- The register file by identifier: seven registers, three pairs, any other identifier faults.
Rests on 10_state.md section 1; 30_encoding.md section 2; 92_eei_decisions.md D31. Identifiers are
the field codes of the encoding, general knowledge G1 (log 2, log 13). -/
def Obligations.RegisterFileIdentifiers : Prop :=
  ∀ (s : State) (v : Byte) (w : Word),
    readRegId s 0 = .ok (s.reg .B) ∧ readRegId s 1 = .ok (s.reg .C) ∧
    readRegId s 2 = .ok (s.reg .D) ∧ readRegId s 3 = .ok (s.reg .E) ∧
    readRegId s 4 = .ok (s.reg .H) ∧ readRegId s 5 = .ok (s.reg .L) ∧
    readRegId s 7 = .ok (s.reg .A) ∧ readRegId s 6 = .error (.unsupportedRegister 6) ∧
    writeRegId s 0 v = .ok (s.setReg .B v) ∧ writeRegId s 1 v = .ok (s.setReg .C v) ∧
    writeRegId s 2 v = .ok (s.setReg .D v) ∧ writeRegId s 3 v = .ok (s.setReg .E v) ∧
    writeRegId s 4 v = .ok (s.setReg .H v) ∧ writeRegId s 5 v = .ok (s.setReg .L v) ∧
    writeRegId s 7 v = .ok (s.setReg .A v) ∧
    writeRegId s 6 v = .error (.unsupportedRegister 6) ∧
    (∀ r, (s.setReg r v).reg r = v ∧ quietBut [r] s (s.setReg r v) ∧
      (s.setReg r v).flags = s.flags ∧ (s.setReg r v).pc = s.pc) ∧
    readPairId s 0 = .ok (s.pair .BC) ∧ readPairId s 1 = .ok (s.pair .DE) ∧
    readPairId s 2 = .ok (s.pair .HL) ∧ readPairId s 3 = .error (.unsupportedRegister 3) ∧
    writePairId s 0 w = .ok (s.setPair .BC w) ∧ writePairId s 1 w = .ok (s.setPair .DE w) ∧
    writePairId s 2 w = .ok (s.setPair .HL w) ∧
    writePairId s 3 w = .error (.unsupportedRegister 3) ∧
    (∀ p hi lo, (p, hi, lo) ∈ [(Pair.BC, Reg.B, Reg.C), (.DE, .D, .E), (.HL, .H, .L)] →
      (s.pair p).toNat = 256 * (s.reg hi).toNat + (s.reg lo).toNat ∧
      (s.setPair p w).pair p = w ∧
      ((s.setPair p w).reg hi).toNat = w.toNat / 256 ∧
      ((s.setPair p w).reg lo).toNat = w.toNat % 256 ∧
      quietBut [hi, lo] s (s.setPair p w) ∧
      (s.setPair p w).flags = s.flags ∧ (s.setPair p w).pc = s.pc)
end

