-- ==== Sys2Proof/Laws/State.lean ====
section
/-!
SUPPORT. The laws of the state's updates: each field after each update, and the registers and pairs
after a write. With them no proof unfolds a record update.
-/

namespace Sys2Proof.Machine

variable (s : State)

@[simp] theorem regs_withRegs (g : Regs) : (s.withRegs g).regs = g := rfl
@[simp] theorem flags_withRegs (g : Regs) : (s.withRegs g).flags = s.flags := rfl
@[simp] theorem pc_withRegs (g : Regs) : (s.withRegs g).pc = s.pc := rfl
@[simp] theorem sp_withRegs (g : Regs) : (s.withRegs g).sp = s.sp := rfl
@[simp] theorem ie_withRegs (g : Regs) : (s.withRegs g).ie = s.ie := rfl
@[simp] theorem halted_withRegs (g : Regs) : (s.withRegs g).halted = s.halted := rfl
@[simp] theorem mem_withRegs (g : Regs) : (s.withRegs g).mem = s.mem := rfl
@[simp] theorem cfg_withRegs (g : Regs) : (s.withRegs g).cfg = s.cfg := rfl
@[simp] theorem host_withRegs (g : Regs) : (s.withRegs g).host = s.host := rfl

@[simp] theorem regs_withFlags (f : Flags) : (s.withFlags f).regs = s.regs := rfl
@[simp] theorem flags_withFlags (f : Flags) : (s.withFlags f).flags = f := rfl
@[simp] theorem pc_withFlags (f : Flags) : (s.withFlags f).pc = s.pc := rfl
@[simp] theorem sp_withFlags (f : Flags) : (s.withFlags f).sp = s.sp := rfl
@[simp] theorem ie_withFlags (f : Flags) : (s.withFlags f).ie = s.ie := rfl
@[simp] theorem halted_withFlags (f : Flags) : (s.withFlags f).halted = s.halted := rfl
@[simp] theorem mem_withFlags (f : Flags) : (s.withFlags f).mem = s.mem := rfl
@[simp] theorem cfg_withFlags (f : Flags) : (s.withFlags f).cfg = s.cfg := rfl
@[simp] theorem host_withFlags (f : Flags) : (s.withFlags f).host = s.host := rfl
@[simp] theorem reg_withFlags (f : Flags) (r : Reg) : (s.withFlags f).reg r = s.reg r := rfl
@[simp] theorem pair_withFlags (f : Flags) (p : Pair) : (s.withFlags f).pair p = s.pair p := rfl

@[simp] theorem regs_withPc (v : Word) : (s.withPc v).regs = s.regs := rfl
@[simp] theorem flags_withPc (v : Word) : (s.withPc v).flags = s.flags := rfl
@[simp] theorem pc_withPc (v : Word) : (s.withPc v).pc = v := rfl
@[simp] theorem sp_withPc (v : Word) : (s.withPc v).sp = s.sp := rfl
@[simp] theorem ie_withPc (v : Word) : (s.withPc v).ie = s.ie := rfl
@[simp] theorem halted_withPc (v : Word) : (s.withPc v).halted = s.halted := rfl
@[simp] theorem mem_withPc (v : Word) : (s.withPc v).mem = s.mem := rfl
@[simp] theorem cfg_withPc (v : Word) : (s.withPc v).cfg = s.cfg := rfl
@[simp] theorem host_withPc (v : Word) : (s.withPc v).host = s.host := rfl
@[simp] theorem reg_withPc (v : Word) (r : Reg) : (s.withPc v).reg r = s.reg r := rfl
@[simp] theorem pair_withPc (v : Word) (p : Pair) : (s.withPc v).pair p = s.pair p := rfl

@[simp] theorem regs_withSp (v : Word) : (s.withSp v).regs = s.regs := rfl
@[simp] theorem flags_withSp (v : Word) : (s.withSp v).flags = s.flags := rfl
@[simp] theorem pc_withSp (v : Word) : (s.withSp v).pc = s.pc := rfl
@[simp] theorem sp_withSp (v : Word) : (s.withSp v).sp = v := rfl
@[simp] theorem ie_withSp (v : Word) : (s.withSp v).ie = s.ie := rfl
@[simp] theorem halted_withSp (v : Word) : (s.withSp v).halted = s.halted := rfl
@[simp] theorem mem_withSp (v : Word) : (s.withSp v).mem = s.mem := rfl
@[simp] theorem cfg_withSp (v : Word) : (s.withSp v).cfg = s.cfg := rfl
@[simp] theorem host_withSp (v : Word) : (s.withSp v).host = s.host := rfl
@[simp] theorem reg_withSp (v : Word) (r : Reg) : (s.withSp v).reg r = s.reg r := rfl
@[simp] theorem pair_withSp (v : Word) (p : Pair) : (s.withSp v).pair p = s.pair p := rfl

@[simp] theorem regs_withIe (b : Bool) : (s.withIe b).regs = s.regs := rfl
@[simp] theorem flags_withIe (b : Bool) : (s.withIe b).flags = s.flags := rfl
@[simp] theorem pc_withIe (b : Bool) : (s.withIe b).pc = s.pc := rfl
@[simp] theorem sp_withIe (b : Bool) : (s.withIe b).sp = s.sp := rfl
@[simp] theorem ie_withIe (b : Bool) : (s.withIe b).ie = b := rfl
@[simp] theorem halted_withIe (b : Bool) : (s.withIe b).halted = s.halted := rfl
@[simp] theorem mem_withIe (b : Bool) : (s.withIe b).mem = s.mem := rfl
@[simp] theorem cfg_withIe (b : Bool) : (s.withIe b).cfg = s.cfg := rfl
@[simp] theorem host_withIe (b : Bool) : (s.withIe b).host = s.host := rfl
@[simp] theorem reg_withIe (b : Bool) (r : Reg) : (s.withIe b).reg r = s.reg r := rfl
@[simp] theorem pair_withIe (b : Bool) (p : Pair) : (s.withIe b).pair p = s.pair p := rfl

@[simp] theorem regs_withHalted (b : Bool) : (s.withHalted b).regs = s.regs := rfl
@[simp] theorem flags_withHalted (b : Bool) : (s.withHalted b).flags = s.flags := rfl
@[simp] theorem pc_withHalted (b : Bool) : (s.withHalted b).pc = s.pc := rfl
@[simp] theorem sp_withHalted (b : Bool) : (s.withHalted b).sp = s.sp := rfl
@[simp] theorem ie_withHalted (b : Bool) : (s.withHalted b).ie = s.ie := rfl
@[simp] theorem halted_withHalted (b : Bool) : (s.withHalted b).halted = b := rfl
@[simp] theorem mem_withHalted (b : Bool) : (s.withHalted b).mem = s.mem := rfl
@[simp] theorem cfg_withHalted (b : Bool) : (s.withHalted b).cfg = s.cfg := rfl
@[simp] theorem host_withHalted (b : Bool) : (s.withHalted b).host = s.host := rfl
@[simp] theorem reg_withHalted (b : Bool) (r : Reg) : (s.withHalted b).reg r = s.reg r := rfl
@[simp] theorem pair_withHalted (b : Bool) (p : Pair) : (s.withHalted b).pair p = s.pair p := rfl

@[simp] theorem regs_withMem (m : Memory) : (s.withMem m).regs = s.regs := rfl
@[simp] theorem flags_withMem (m : Memory) : (s.withMem m).flags = s.flags := rfl
@[simp] theorem pc_withMem (m : Memory) : (s.withMem m).pc = s.pc := rfl
@[simp] theorem sp_withMem (m : Memory) : (s.withMem m).sp = s.sp := rfl
@[simp] theorem ie_withMem (m : Memory) : (s.withMem m).ie = s.ie := rfl
@[simp] theorem halted_withMem (m : Memory) : (s.withMem m).halted = s.halted := rfl
@[simp] theorem mem_withMem (m : Memory) : (s.withMem m).mem = m := rfl
@[simp] theorem cfg_withMem (m : Memory) : (s.withMem m).cfg = s.cfg := rfl
@[simp] theorem host_withMem (m : Memory) : (s.withMem m).host = s.host := rfl
@[simp] theorem reg_withMem (m : Memory) (r : Reg) : (s.withMem m).reg r = s.reg r := rfl
@[simp] theorem pair_withMem (m : Memory) (p : Pair) : (s.withMem m).pair p = s.pair p := rfl

@[simp] theorem regs_withHost (h : HostSide) : (s.withHost h).regs = s.regs := rfl
@[simp] theorem flags_withHost (h : HostSide) : (s.withHost h).flags = s.flags := rfl
@[simp] theorem pc_withHost (h : HostSide) : (s.withHost h).pc = s.pc := rfl
@[simp] theorem sp_withHost (h : HostSide) : (s.withHost h).sp = s.sp := rfl
@[simp] theorem ie_withHost (h : HostSide) : (s.withHost h).ie = s.ie := rfl
@[simp] theorem halted_withHost (h : HostSide) : (s.withHost h).halted = s.halted := rfl
@[simp] theorem mem_withHost (h : HostSide) : (s.withHost h).mem = s.mem := rfl
@[simp] theorem cfg_withHost (h : HostSide) : (s.withHost h).cfg = s.cfg := rfl
@[simp] theorem host_withHost (h : HostSide) : (s.withHost h).host = h := rfl
@[simp] theorem reg_withHost (h : HostSide) (r : Reg) : (s.withHost h).reg r = s.reg r := rfl
@[simp] theorem pair_withHost (h : HostSide) (p : Pair) : (s.withHost h).pair p = s.pair p := rfl

@[simp] theorem regs_withReport (n : Option Nat) : (s.withReport n).regs = s.regs := rfl
@[simp] theorem flags_withReport (n : Option Nat) : (s.withReport n).flags = s.flags := rfl
@[simp] theorem pc_withReport (n : Option Nat) : (s.withReport n).pc = s.pc := rfl
@[simp] theorem sp_withReport (n : Option Nat) : (s.withReport n).sp = s.sp := rfl
@[simp] theorem ie_withReport (n : Option Nat) : (s.withReport n).ie = s.ie := rfl
@[simp] theorem halted_withReport (n : Option Nat) : (s.withReport n).halted = s.halted := rfl
@[simp] theorem mem_withReport (n : Option Nat) : (s.withReport n).mem = s.mem := rfl
@[simp] theorem cfg_withReport (n : Option Nat) : (s.withReport n).cfg = s.cfg := rfl
@[simp] theorem reg_withReport (n : Option Nat) (r : Reg) : (s.withReport n).reg r = s.reg r := rfl
@[simp] theorem pair_withReport (n : Option Nat) (p : Pair) : (s.withReport n).pair p = s.pair p := rfl
@[simp] theorem regs_advance (n : Word) : (s.advance n).regs = s.regs := rfl
@[simp] theorem flags_advance (n : Word) : (s.advance n).flags = s.flags := rfl
@[simp] theorem pc_advance (n : Word) : (s.advance n).pc = s.pc + n := rfl
@[simp] theorem sp_advance (n : Word) : (s.advance n).sp = s.sp := rfl
@[simp] theorem ie_advance (n : Word) : (s.advance n).ie = s.ie := rfl
@[simp] theorem halted_advance (n : Word) : (s.advance n).halted = s.halted := rfl
@[simp] theorem mem_advance (n : Word) : (s.advance n).mem = s.mem := rfl
@[simp] theorem cfg_advance (n : Word) : (s.advance n).cfg = s.cfg := rfl
@[simp] theorem host_advance (n : Word) : (s.advance n).host = s.host := rfl
@[simp] theorem reg_advance (n : Word) (r : Reg) : (s.advance n).reg r = s.reg r := rfl
@[simp] theorem pair_advance (n : Word) (p : Pair) : (s.advance n).pair p = s.pair p := rfl
@[simp] theorem host_withReport (n : Option Nat) :
    (s.withReport n).host = { s.host with report := n } := rfl

@[simp] theorem flags_setReg (r : Reg) (v : Byte) : (s.setReg r v).flags = s.flags := rfl
@[simp] theorem pc_setReg (r : Reg) (v : Byte) : (s.setReg r v).pc = s.pc := rfl
@[simp] theorem sp_setReg (r : Reg) (v : Byte) : (s.setReg r v).sp = s.sp := rfl
@[simp] theorem ie_setReg (r : Reg) (v : Byte) : (s.setReg r v).ie = s.ie := rfl
@[simp] theorem halted_setReg (r : Reg) (v : Byte) : (s.setReg r v).halted = s.halted := rfl
@[simp] theorem mem_setReg (r : Reg) (v : Byte) : (s.setReg r v).mem = s.mem := rfl
@[simp] theorem cfg_setReg (r : Reg) (v : Byte) : (s.setReg r v).cfg = s.cfg := rfl
@[simp] theorem host_setReg (r : Reg) (v : Byte) : (s.setReg r v).host = s.host := rfl
@[simp] theorem flags_setPair (p : Pair) (v : Word) : (s.setPair p v).flags = s.flags := rfl
@[simp] theorem pc_setPair (p : Pair) (v : Word) : (s.setPair p v).pc = s.pc := rfl
@[simp] theorem sp_setPair (p : Pair) (v : Word) : (s.setPair p v).sp = s.sp := rfl
@[simp] theorem ie_setPair (p : Pair) (v : Word) : (s.setPair p v).ie = s.ie := rfl
@[simp] theorem halted_setPair (p : Pair) (v : Word) : (s.setPair p v).halted = s.halted := rfl
@[simp] theorem mem_setPair (p : Pair) (v : Word) : (s.setPair p v).mem = s.mem := rfl
@[simp] theorem cfg_setPair (p : Pair) (v : Word) : (s.setPair p v).cfg = s.cfg := rfl
@[simp] theorem host_setPair (p : Pair) (v : Word) : (s.setPair p v).host = s.host := rfl

/-! ### Registers -/

theorem get_set (g : Regs) (r r' : Reg) (v : Byte) :
    (g.set r v).get r' = if r' = r then v else g.get r' := by
  cases r <;> cases r' <;> rfl

/-- Reading a register after a write to one (R20: no aliasing between named registers). -/
theorem reg_setReg (r r' : Reg) (v : Byte) :
    (s.setReg r v).reg r' = if r' = r then v else s.reg r' :=
  get_set s.regs r r' v

@[simp] theorem reg_setReg_same (r : Reg) (v : Byte) : (s.setReg r v).reg r = v := by
  simp [reg_setReg]

theorem reg_setReg_ne {r r' : Reg} (h : r' ≠ r) (v : Byte) :
    (s.setReg r v).reg r' = s.reg r' := by
  simp [reg_setReg, h]

theorem high_ne_low (p : Pair) : Pair.high p ≠ Pair.low p := by cases p <;> decide

/-- Reading a register after a write to a pair (R22). -/
theorem reg_setPair (p : Pair) (v : Word) (r : Reg) :
    (s.setPair p v).reg r
      = if r = Pair.low p then loByte v else if r = Pair.high p then hiByte v else s.reg r := by
  simp only [State.setPair, reg_setReg]

@[simp] theorem reg_setPair_low (p : Pair) (v : Word) :
    (s.setPair p v).reg (Pair.low p) = loByte v := by
  simp [reg_setPair]

@[simp] theorem reg_setPair_high (p : Pair) (v : Word) :
    (s.setPair p v).reg (Pair.high p) = hiByte v := by
  simp [reg_setPair, high_ne_low]

theorem reg_setPair_ne {p : Pair} {r : Reg} (hh : r ≠ Pair.high p) (hl : r ≠ Pair.low p)
    (v : Word) : (s.setPair p v).reg r = s.reg r := by
  simp [reg_setPair, hh, hl]

/-! ### Bytes of a 16-bit value -/

@[simp] theorem hiByte_joinBytes (h l : Byte) : hiByte (joinBytes h l) = h := by
  unfold hiByte joinBytes
  ext i hi
  simp only [BitVec.getElem_extractLsb', BitVec.getLsbD_append]
  rw [if_neg (by omega), show 8 + i - 8 = i by omega, BitVec.getLsbD_eq_getElem hi]

@[simp] theorem loByte_joinBytes (h l : Byte) : loByte (joinBytes h l) = l := by
  unfold loByte joinBytes
  ext i hi
  simp only [BitVec.getElem_extractLsb', BitVec.getLsbD_append, Nat.zero_add]
  rw [if_pos hi, BitVec.getLsbD_eq_getElem hi]

@[simp] theorem joinBytes_hi_lo (v : Word) : joinBytes (hiByte v) (loByte v) = v := by
  unfold hiByte loByte joinBytes
  apply BitVec.eq_of_getLsbD_eq
  intro i hi
  simp only [BitVec.getLsbD_append, BitVec.getLsbD_extractLsb', Nat.zero_add]
  split
  · simp [*]
  · rename_i h
    rw [show 8 + (i - 8) = i by omega]
    simp [show i - 8 < 8 by omega]

/-- The value a pair has after it was written (R22). -/
@[simp] theorem pair_setPair_same (p : Pair) (v : Word) : (s.setPair p v).pair p = v := by
  simp [State.pair]

theorem hiByte_pair (p : Pair) : hiByte (s.pair p) = s.reg (Pair.high p) := by
  simp [State.pair]

theorem loByte_pair (p : Pair) : loByte (s.pair p) = s.reg (Pair.low p) := by
  simp [State.pair]

/-- A write to one pair leaves the others. -/
theorem pair_setPair_ne {p q : Pair} (h : q ≠ p) (v : Word) :
    (s.setPair p v).pair q = s.pair q := by
  cases p <;> cases q <;> first | exact absurd rfl h | rfl

end Sys2Proof.Machine
end

