-- ==== Sys2Proof/Laws/Memory.lean ====
section
/-!
SUPPORT. The memory array: read after write, the canonical form, and the range of the listed
addresses.
-/

namespace Sys2Proof.Machine

/-! ### Read after write -/

theorem Memory.read_erase (m : Memory) (p q : Nat) :
    (m.erase p).read q = if q = p then Memory.unlisted else m.read q := by
  induction m with
  | nil => simp [Memory.erase, Memory.read]
  | cons c rest ih =>
    obtain ⟨a, w⟩ := c
    by_cases hap : a = p <;> by_cases hq : q = p <;> by_cases haq : a = q <;>
      simp_all [Memory.erase, Memory.read]

theorem Memory.read_insert {m : Memory} {p : Nat} (v : Byte) (q : Nat)
    (hp : ∀ x ∈ m, x.1 ≠ p) :
    (m.insert p v).read q = if q = p then v else m.read q := by
  induction m with
  | nil => simp [Memory.insert, Memory.read, eq_comm]
  | cons c rest ih =>
    obtain ⟨a, w⟩ := c
    have hne : a ≠ p := hp (a, w) (by simp)
    have hr : ∀ x ∈ rest, x.1 ≠ p := fun x hx => hp x (by simp [hx])
    unfold Memory.insert
    split
    · simp only [Memory.read, ih hr]
      by_cases haq : a = q
      · subst haq; simp [hne]
      · simp [haq]
    · simp only [Memory.read]
      by_cases hpq : p = q
      · simp [hpq]
      · simp [hpq, Ne.symm hpq]

theorem Memory.not_mem_erase (m : Memory) (p : Nat) : ∀ x ∈ m.erase p, x.1 ≠ p := by
  induction m with
  | nil => simp [Memory.erase]
  | cons c rest ih =>
    obtain ⟨a, w⟩ := c
    unfold Memory.erase
    split
    · exact ih
    · intro x hx
      rcases List.mem_cons.mp hx with rfl | hx
      · assumption
      · exact ih x hx

/-- The law of the array: a byte reads as it was last written, every other byte as before. -/
theorem Memory.read_write (m : Memory) (p : Nat) (v : Byte) (q : Nat) :
    (m.write p v).read q = if q = p then v else m.read q := by
  unfold Memory.write
  split
  · subst v; rw [Memory.read_erase]
  · rw [Memory.read_insert v q (m.not_mem_erase p), Memory.read_erase]
    by_cases h : q = p <;> simp [h]

@[simp] theorem Memory.read_write_same (m : Memory) (p : Nat) (v : Byte) :
    (m.write p v).read p = v := by simp [Memory.read_write]

theorem Memory.read_write_ne (m : Memory) {p q : Nat} (h : q ≠ p) (v : Byte) :
    (m.write p v).read q = m.read q := by simp [Memory.read_write, h]

/-! ### The canonical form -/

theorem Memory.wfFrom_mono {m : Memory} {lo lo' : Nat} (h : m.wfFrom lo = true) (hl : lo' ≤ lo) :
    m.wfFrom lo' = true := by
  cases m with
  | nil => rfl
  | cons c rest =>
    obtain ⟨a, w⟩ := c
    simp only [Memory.wfFrom, Bool.and_eq_true, decide_eq_true_eq] at h ⊢
    exact ⟨⟨by omega, h.1.2⟩, h.2⟩

theorem Memory.wfFrom_erase {m : Memory} (p : Nat) {lo : Nat} (h : m.wfFrom lo = true) :
    (m.erase p).wfFrom lo = true := by
  induction m generalizing lo with
  | nil => rfl
  | cons c rest ih =>
    obtain ⟨a, w⟩ := c
    simp only [Memory.wfFrom, Bool.and_eq_true, decide_eq_true_eq] at h
    unfold Memory.erase
    split
    · exact Memory.wfFrom_mono (ih h.2) (by omega)
    · simp only [Memory.wfFrom, Bool.and_eq_true, decide_eq_true_eq]
      exact ⟨h.1, ih h.2⟩

theorem Memory.wfFrom_insert {m : Memory} {p : Nat} {v : Byte} {lo : Nat}
    (h : m.wfFrom lo = true) (hp : ∀ x ∈ m, x.1 ≠ p) (hlo : lo ≤ p) (hv : v ≠ Memory.unlisted) :
    (m.insert p v).wfFrom lo = true := by
  induction m generalizing lo with
  | nil => simp [Memory.insert, Memory.wfFrom, hlo, hv]
  | cons c rest ih =>
    obtain ⟨a, w⟩ := c
    have hne : a ≠ p := hp (a, w) (by simp)
    simp only [Memory.wfFrom, Bool.and_eq_true, decide_eq_true_eq] at h
    unfold Memory.insert
    split
    · simp only [Memory.wfFrom, Bool.and_eq_true, decide_eq_true_eq]
      exact ⟨h.1, ih h.2 (fun x hx => hp x (by simp [hx])) (by omega)⟩
    · simp only [Memory.wfFrom, Bool.and_eq_true, decide_eq_true_eq]
      exact ⟨⟨hlo, hv⟩, ⟨by omega, h.1.2⟩, h.2⟩

/-- A write keeps the canonical form. -/
theorem Memory.wf_write {m : Memory} (p : Nat) (v : Byte) (h : m.wf = true) :
    (m.write p v).wf = true := by
  unfold Memory.write Memory.wf at *
  split
  · exact Memory.wfFrom_erase p h
  · rename_i hv
    exact Memory.wfFrom_insert (Memory.wfFrom_erase p h) (m.not_mem_erase p) (Nat.zero_le _) hv

/-! ### The range of the listed addresses -/

theorem Memory.mem_erase {m : Memory} {p : Nat} {x : Host.Cell} (h : x ∈ m.erase p) : x ∈ m := by
  induction m with
  | nil => simp [Memory.erase] at h
  | cons c rest ih =>
    obtain ⟨a, w⟩ := c
    unfold Memory.erase at h
    split at h
    · exact List.mem_cons_of_mem _ (ih h)
    · rcases List.mem_cons.mp h with rfl | h
      · simp
      · exact List.mem_cons_of_mem _ (ih h)

theorem Memory.mem_insert {m : Memory} {p : Nat} {v : Byte} {x : Host.Cell}
    (h : x ∈ m.insert p v) : x = (p, v) ∨ x ∈ m := by
  induction m with
  | nil => simpa [Memory.insert] using h
  | cons c rest ih =>
    obtain ⟨a, w⟩ := c
    unfold Memory.insert at h
    split at h
    · rcases List.mem_cons.mp h with rfl | h
      · simp
      · exact (ih h).imp id (List.mem_cons_of_mem _)
    · simpa using h

/-- A write inside the array keeps the listed addresses inside it. -/
theorem Memory.within_write {m : Memory} {p size : Nat} (v : Byte) (h : m.within size = true)
    (hp : p < size) : (m.write p v).within size = true := by
  simp only [Memory.within, List.all_eq_true, decide_eq_true_eq] at *
  intro x hx
  unfold Memory.write at hx
  split at hx
  · exact h x (Memory.mem_erase hx)
  · rcases Memory.mem_insert hx with rfl | hx
    · exact hp
    · exact h x (Memory.mem_erase hx)

end Sys2Proof.Machine
end

