-- ==== Sys2Proof/Laws/Ops.lean ====
section
/-!
SUPPORT. One lemma for each shared operation that says everything it can do: the memory controller,
the stack, the call, the return, the interrupt entry. Callers cite these and do not unfold.
-/

namespace Sys2Proof.Machine

variable {s t : State}

@[simp] theorem attempt_ok {α : Type} (v : α) (k : α → Result) : attempt (.ok v) k = k v := rfl

@[simp] theorem attempt_error {α : Type} (f : Fault) (k : α → Result) :
    attempt (.error f) k = .fault f := rfl

/-- An attempted operation that goes on has a value. -/
theorem attempt_next {α : Type} {r : Except Fault α} {k : α → Result}
    (h : attempt r k = .next t) : ∃ v, r = .ok v ∧ k v = .next t := by
  cases r with
  | ok v => exact ⟨v, rfl, h⟩
  | error f => cases h

/-! ### What writes can do to the array -/

/-- `m'` is `m` after some writes to writable bytes of the array: all that a step can do to memory
(R63: "the only bytes an instruction can change"). -/
inductive Writes (c : Config) (m : Memory) : Memory → Prop where
  | none : Writes c m m
  | write {m' : Memory} {p : Nat} (v : Byte) : Writes c m m' → p < c.memorySize →
      AddrRange.contains c.writable p = true → Writes c m (m'.write p v)

theorem Writes.trans {c : Config} {m m' m'' : Memory} (h : Writes c m m')
    (h' : Writes c m' m'') : Writes c m m'' := by
  induction h' with
  | none => exact h
  | write v _ hp hw ih => exact .write v ih hp hw

theorem Writes.wf {c : Config} {m m' : Memory} (h : Writes c m m') (hm : m.wf = true) :
    m'.wf = true := by
  induction h with
  | none => exact hm
  | write v _ _ _ ih => exact Memory.wf_write _ v ih

theorem Writes.within {c : Config} {m m' : Memory} (h : Writes c m m')
    (hm : m.within c.memorySize = true) : m'.within c.memorySize = true := by
  induction h with
  | none => exact hm
  | write v _ hp _ ih => exact Memory.within_write v ih hp

/-- A byte outside the writable range keeps its value (R55). -/
theorem Writes.read_outside {c : Config} {m m' : Memory} (h : Writes c m m') {q : Nat}
    (hq : AddrRange.contains c.writable q = false) : m'.read q = m.read q := by
  induction h with
  | none => rfl
  | write v _ _ hw ih =>
    rw [Memory.read_write_ne _ (by rintro rfl; simp [hq] at hw), ih]

/-! ### The memory controller -/

theorem phys_cases (c : Config) (a : Word) :
    (phys c a = .ok (translateAddr c a) ∧ translateAddr c a < c.memorySize) ∨
    (phys c a = .error (.addressOutOfRange a) ∧ c.memorySize ≤ translateAddr c a) := by
  unfold phys
  split
  · exact .inl ⟨rfl, ‹_›⟩
  · exact .inr ⟨rfl, Nat.le_of_not_lt ‹_›⟩

/-- A translated address is inside the array (R52, R56). -/
theorem phys_lt {c : Config} {a : Word} {p : Nat} (h : phys c a = .ok p) : p < c.memorySize := by
  rcases phys_cases c a with ⟨h', hlt⟩ | ⟨h', _⟩
  · rw [h'] at h; cases h; exact hlt
  · rw [h'] at h; cases h

theorem phys_error {c : Config} {a : Word} {f : Fault} (h : phys c a = .error f) :
    f = .addressOutOfRange a := by
  rcases phys_cases c a with ⟨h', _⟩ | ⟨h', _⟩ <;> rw [h'] at h <;> cases h
  rfl

theorem memRead_of_phys {a : Word} {p : Nat} (h : phys s.cfg a = .ok p) :
    memRead s a = .ok (s.mem.read p) := by simp [memRead, h]

theorem memRead_cases (s : State) (a : Word) :
    (∃ p, phys s.cfg a = .ok p ∧ memRead s a = .ok (s.mem.read p)) ∨
    (memRead s a = .error (.addressOutOfRange a) ∧ ¬ Readable s a) := by
  rcases phys_cases s.cfg a with ⟨h, _⟩ | ⟨h, _⟩
  · exact .inl ⟨_, h, memRead_of_phys h⟩
  · exact .inr ⟨by simp [memRead, h], by simp [Readable, h]⟩

/-- Everything a write that does not fault does: only memory changes, by at most the one byte. -/
theorem memWrite_ok {a : Word} {v : Byte} (h : memWrite s a v = .ok t) :
    ∃ m, t = s.withMem m ∧ Writes s.cfg s.mem m ∧ ∀ q, m.read q = storedByte s [(a, v)] q := by
  unfold memWrite at h
  split at h
  · cases h
  · rename_i p hp
    split at h
    · rename_i hw
      cases h
      refine ⟨_, rfl, .write v .none (phys_lt hp) hw, fun q => ?_⟩
      simp [storedByte, hp, hw, Memory.read_write, eq_comm]
    · rename_i hw
      split at h
      · cases h
        exact ⟨s.mem, rfl, .none, fun q => by simp [storedByte, hp, hw]⟩
      · cases h

theorem memRead_of_not_readable {a : Word} (h : ¬ Readable s a) :
    memRead s a = .error (.addressOutOfRange a) := by
  rcases memRead_cases s a with ⟨p, hp, _⟩ | ⟨h', _⟩
  · exact absurd ⟨p, hp⟩ h
  · exact h'

theorem memWrite_of_storeFaults {a : Word} {f : Fault} (h : StoreFaults s a f) (v : Byte) :
    memWrite s a v = .error f := by
  rcases h with h | ⟨⟨p, hp, hw⟩, hpol, rfl⟩
  · simp [memWrite, h]
  · simp [memWrite, hp, hw, hpol]

theorem memWrite_of_storable {a : Word} (h : Storable s a) (v : Byte) :
    ∃ t, memWrite s a v = .ok t := by
  obtain ⟨p, hp, hw⟩ := h
  unfold memWrite
  rw [hp]
  by_cases hc : AddrRange.contains s.cfg.writable p = true
  · simp [hc]
  · simp [hc, hw.resolve_left hc]

/-- The faults of a write (R55, R56). -/
theorem memWrite_error {a : Word} {v : Byte} {f : Fault} (h : memWrite s a v = .error f) :
    f = .addressOutOfRange a ∨ f = .writeProtected a := by
  unfold memWrite at h
  split at h
  · rename_i hp; cases h; exact .inl (phys_error hp)
  · split at h
    · cases h
    · split at h
      · cases h
      · cases h; exact .inr rfl

@[simp] theorem storable_withMem (m : Memory) (a : Word) :
    Storable (s.withMem m) a ↔ Storable s a := Iff.rfl

@[simp] theorem readable_withMem (m : Memory) (a : Word) :
    Readable (s.withMem m) a ↔ Readable s a := Iff.rfl

/-- Writes on the memory that writes left: the lists of writes join. -/
theorem storedByte_after {ws : List (Word × Byte)} (hc : t.cfg = s.cfg)
    (hm : ∀ q, t.mem.read q = storedByte s ws q) (ws' : List (Word × Byte)) (q : Nat) :
    storedByte t ws' q = storedByte s (ws' ++ ws) q := by
  induction ws' with
  | nil => simpa [storedByte] using hm q
  | cons w rest ih =>
    obtain ⟨a, v⟩ := w
    simp only [storedByte, List.cons_append, hc, ih]

/-- A second write after a first. -/
theorem memWrite_memWrite {a b : Word} {v w : Byte} {u : State}
    (h : memWrite s a v = .ok t) (h' : memWrite t b w = .ok u) :
    ∃ m, u = s.withMem m ∧ Writes s.cfg s.mem m ∧
      ∀ q, m.read q = storedByte s [(b, w), (a, v)] q := by
  obtain ⟨m, rfl, hw, hm⟩ := memWrite_ok h
  obtain ⟨m', rfl, hw', hm'⟩ := memWrite_ok h'
  exact ⟨m', rfl, hw.trans hw', fun q => by
    rw [hm' q, storedByte_after (s := s) (t := s.withMem m) rfl hm]; rfl⟩

theorem readWord_ok {a v : Word} (h : readWord s a = .ok v) :
    ∃ lo hi, memRead s a = .ok lo ∧ memRead s (a + 1) = .ok hi ∧ v = joinBytes hi lo := by
  unfold readWord at h
  split at h
  · cases h
  · split at h
    · cases h
    · cases h; exact ⟨_, _, ‹_›, ‹_›, rfl⟩

theorem readWord_of_bytes {a : Word} {lo hi : Byte} (hl : memRead s a = .ok lo)
    (hh : memRead s (a + 1) = .ok hi) : readWord s a = .ok (joinBytes hi lo) := by
  simp only [readWord, hl, hh]

/-- Everything a 16-bit write does. -/
theorem writeWord_ok {a v : Word} (h : writeWord s a v = .ok t) :
    ∃ m, t = s.withMem m ∧ Writes s.cfg s.mem m ∧
      ∀ q, m.read q = storedByte s [(a + 1, hiByte v), (a, loByte v)] q := by
  unfold writeWord at h
  split at h
  · cases h
  · exact memWrite_memWrite ‹_› h

theorem writeWord_of_storable {a : Word} (h : Storable s a) (h' : Storable s (a + 1)) (v : Word) :
    ∃ t, writeWord s a v = .ok t := by
  obtain ⟨t, ht⟩ := memWrite_of_storable h (loByte v)
  obtain ⟨m, rfl, -, -⟩ := memWrite_ok ht
  simpa only [writeWord, ht] using memWrite_of_storable ((storable_withMem m _).mpr h') (hiByte v)

/-! ### The stack, the call, the return, the interrupt entry -/

/-- Everything `push16` does (R190). -/
theorem push16_ok {v : Word} (h : push16 s v = .ok t) :
    ∃ m, t = (s.withMem m).withSp (s.sp - 2) ∧ Writes s.cfg s.mem m ∧
      ∀ q, m.read q = storedByte s [(s.sp - 2, loByte v), (s.sp - 1, hiByte v)] q := by
  unfold push16 at h
  split at h
  · cases h
  · split at h
    · cases h
    · rename_i h1 _ u h2
      obtain ⟨m, rfl, hw, hm⟩ := memWrite_memWrite h1 h2
      cases h
      exact ⟨m, rfl, hw, hm⟩

theorem push16_of_storable (h : Storable s (s.sp - 1)) (h' : Storable s (s.sp - 2)) (v : Word) :
    ∃ t, push16 s v = .ok t := by
  obtain ⟨t, ht⟩ := memWrite_of_storable h (hiByte v)
  obtain ⟨m, rfl, -, -⟩ := memWrite_ok ht
  obtain ⟨u, hu⟩ := memWrite_of_storable ((storable_withMem m _).mpr h') (loByte v)
  exact ⟨u.withSp (s.sp - 2), by simp only [push16, ht, hu]⟩

/-- Everything `pop16` does (R190). -/
theorem pop16_ok {v : Word} (h : pop16 s = .ok (v, t)) :
    readWord s s.sp = .ok v ∧ t = s.withSp (s.sp + 2) := by
  unfold pop16 at h
  split at h
  · cases h
  · cases h; exact ⟨‹_›, rfl⟩

theorem pop16_of_bytes {lo hi : Byte} (hl : memRead s s.sp = .ok lo)
    (hh : memRead s (s.sp + 1) = .ok hi) :
    pop16 s = .ok (joinBytes hi lo, s.withSp (s.sp + 2)) := by
  simp only [pop16, readWord_of_bytes hl hh]

/-- Everything the call does (R198, R202). -/
theorem callTo_ok {ret target : Word} (h : callTo s ret target = .ok t) :
    ∃ m, t = ((s.withMem m).withSp (s.sp - 2)).withPc target ∧ Writes s.cfg s.mem m ∧
      ∀ q, m.read q = storedByte s [(s.sp - 2, loByte ret), (s.sp - 1, hiByte ret)] q := by
  unfold callTo at h
  split at h
  · cases h
  · rename_i h1
    obtain ⟨m, rfl, hw, hm⟩ := push16_ok h1
    cases h
    exact ⟨m, rfl, hw, hm⟩

theorem callTo_of_storable (h : Storable s (s.sp - 1)) (h' : Storable s (s.sp - 2))
    (ret target : Word) : ∃ t, callTo s ret target = .ok t := by
  obtain ⟨t, ht⟩ := push16_of_storable h h' ret
  simp [callTo, ht]

/-- Everything the interrupt entry does (R246). -/
theorem takeInterrupt_ok {n : Fin 8} (h : takeInterrupt s n = .ok t) :
    ∃ m, t = (((s.withMem m).withSp (s.sp - 2)).withPc (vectorAddress n)).withIe false ∧
      Writes s.cfg s.mem m ∧
      ∀ q, m.read q = storedByte s [(s.sp - 2, loByte s.pc), (s.sp - 1, hiByte s.pc)] q := by
  unfold takeInterrupt at h
  split at h
  · cases h
  · rename_i h1
    obtain ⟨m, rfl, hw, hm⟩ := callTo_ok h1
    cases h
    exact ⟨m, rfl, hw, hm⟩

theorem takeInterrupt_of_storable (h : Storable s (s.sp - 1)) (h' : Storable s (s.sp - 2))
    (n : Fin 8) : ∃ t, takeInterrupt s n = .ok t := by
  obtain ⟨t, ht⟩ := callTo_of_storable h h' s.pc (vectorAddress n)
  simp [takeInterrupt, ht]

/-- Everything the return does (R200, R249). -/
theorem returnFrom_ok (h : returnFrom s = .ok t) :
    ∃ v, readWord s s.sp = .ok v ∧ t = (s.withSp (s.sp + 2)).withPc v := by
  unfold returnFrom at h
  split at h
  · cases h
  · rename_i v u h1
    obtain ⟨hr, rfl⟩ := pop16_ok h1
    cases h
    exact ⟨v, hr, rfl⟩

/-! ### Operands and conditions -/

theorem readOperand_of_value {o : Operand} {v : Byte} (h : OperandValue s o v) :
    readOperand s o = .ok v := by
  cases o with
  | reg r => exact congrArg Except.ok h.symm
  | M => exact h

/-- The condition an instruction tests is the one of the table of R191. -/
theorem condHolds_iff (c : Cond) (f : Flags) : condHolds c f = true ↔ condTrue c f := by
  cases c <;> simp [condHolds, condTrue]

/-! ### The interrupt request -/

/-- `StepInterrupt(n)` that answers a state was ignored, or took the entry (R246, R247). -/
theorem interruptStep_next {n : Fin 8} (h : interruptStep n s = .next t) :
    s.halted = false ∧
    ((s.ie = false ∧ t = s.withReport none) ∨
     (s.ie = true ∧ ∃ u, takeInterrupt s n = .ok u ∧ t = u.withReport (some Config.intCycles))) := by
  unfold interruptStep at h
  split at h
  · cases h
  · rename_i hh
    refine ⟨by simpa using hh, ?_⟩
    split at h
    · obtain ⟨u, hu, h⟩ := attempt_next h
      cases h
      exact .inr ⟨‹_›, u, hu, rfl⟩
    · cases h
      rename_i hi
      exact .inl ⟨by simpa using hi, rfl⟩

end Sys2Proof.Machine
end

