-- ==== Sys2Proof/Laws/Exec.lean ====
section
/-!
SUPPORT. What `exec` can do, said once: `exec_cases` reduces a property of every instruction and its
meaning to one case a shape; the shape equations name the shared meaning of each shape;
`exec_writes` says what an instruction does to the configuration and to memory.
-/

namespace Sys2Proof.Machine

/-- What an ALU operation does with the value of its second operand (R88). -/
def aluEffect : AluOp → Byte → State → State
  | .add => addA | .adc => adcA | .sub => subA | .sbb => sbbA
  | .ana => anaA | .xra => xraA | .ora => oraA | .cmp => cmpA

/-! ### The shape equations -/

theorem exec_movRR (d : Reg) (r : Reg) (s : State) :
    exec (Instr.movRR d r) s = moveReg d r s := by
  cases d <;> cases r <;> rfl

theorem exec_movRM (d : Reg) (s : State) :
    exec (Instr.movRM d) s = loadReg d (s.pair .HL) 1 s := by
  cases d <;> rfl

theorem exec_movMR (r : Reg) (s : State) :
    exec (Instr.movMR r) s = storeByte (s.pair .HL) (s.reg r) 1 s := by
  cases r <;> rfl

theorem exec_mviR (d : Reg) (d8 : Byte) (s : State) :
    exec (Instr.mvi (.reg d) d8) s = moveImm d d8 s := by
  cases d <;> rfl

theorem exec_lxi (p : PairSp) (d16 : Word) (s : State) :
    exec (Instr.lxi p d16) s = loadPairImm p d16 s := by
  (rcases p with q | _) <;> (try cases q) <;> rfl

theorem exec_ldax (p : PairBD) (s : State) :
    exec (Instr.ldax p) s = loadReg .A (s.pair (pairOfBD p)) 1 s := by
  cases p <;> rfl

theorem exec_stax (p : PairBD) (s : State) :
    exec (Instr.stax p) s = storeByte (s.pair (pairOfBD p)) (s.reg .A) 1 s := by
  cases p <;> rfl

theorem exec_alu (op : AluOp) (o : Operand) (s : State) :
    exec (Instr.alu op o) s = withOperand (aluEffect op) o s := by
  cases op <;> (rcases o with r | _) <;> (try cases r) <;> rfl

theorem exec_aluImm (op : AluOp) (d8 : Byte) (s : State) :
    exec (Instr.aluImm op d8) s = withImmediate (aluEffect op) d8 s := by
  cases op <;> rfl

theorem exec_inr (o : Operand) (s : State) :
    exec (Instr.inr o) s = incOperand o s := by
  (rcases o with r | _) <;> (try cases r) <;> rfl

theorem exec_dcr (o : Operand) (s : State) :
    exec (Instr.dcr o) s = decOperand o s := by
  (rcases o with r | _) <;> (try cases r) <;> rfl

theorem exec_inx (p : PairSp) (s : State) :
    exec (Instr.inx p) s = incPair p s := by
  (rcases p with q | _) <;> (try cases q) <;> rfl

theorem exec_dcx (p : PairSp) (s : State) :
    exec (Instr.dcx p) s = decPair p s := by
  (rcases p with q | _) <;> (try cases q) <;> rfl

theorem exec_dad (p : PairSp) (s : State) :
    exec (Instr.dad p) s = addToHl p s := by
  (rcases p with q | _) <;> (try cases q) <;> rfl

theorem exec_push (p : PairPsw) (s : State) :
    exec (Instr.push p) s = pushPair p s := by
  (rcases p with q | _) <;> (try cases q) <;> rfl

theorem exec_pop (p : PairPsw) (s : State) :
    exec (Instr.pop p) s = popPair p s := by
  (rcases p with q | _) <;> (try cases q) <;> rfl

theorem exec_jcc (c : Cond) (a16 : Word) (s : State) :
    exec (Instr.jcc c a16) s = jumpIf c a16 s := by
  cases c <;> rfl

theorem exec_ccc (c : Cond) (a16 : Word) (s : State) :
    exec (Instr.ccc c a16) s = callIf c a16 s := by
  cases c <;> rfl

theorem exec_rcc (c : Cond) (s : State) :
    exec (Instr.rcc c) s = returnIf c s := by
  cases c <;> rfl

theorem exec_rst (n : Fin 8) (s : State) :
    exec (Instr.rst n) s = restart n s :=
  match n with | 0 | 1 | 2 | 3 | 4 | 5 | 6 | 7 => rfl

/-! ### The case principle -/

/-- A property of every instruction and its meaning, from one case a shape. -/
theorem exec_cases {Q : Instr → (State → Result) → Prop}
    (undocumented : ∀ (op : Byte), Q (.undocumented op) (execUndocumented op))
    (movRR : ∀ (d : Reg) (r : Reg), Q (Instr.movRR d r) (moveReg d r))
    (movRM : ∀ (d : Reg), Q (Instr.movRM d) (fun s => loadReg d (s.pair .HL) 1 s))
    (movMR : ∀ (r : Reg), Q (Instr.movMR r) (fun s => storeByte (s.pair .HL) (s.reg r) 1 s))
    (mviR : ∀ (d : Reg) (d8 : Byte), Q (Instr.mvi (.reg d) d8) (moveImm d d8))
    (mviM : ∀ (d8 : Byte), Q (.mviM d8) (fun s => storeByte (s.pair .HL) d8 2 s))
    (lxi : ∀ (p : PairSp) (d16 : Word), Q (Instr.lxi p d16) (loadPairImm p d16))
    (lda : ∀ (a16 : Word), Q (.lda a16) (execLda a16))
    (sta : ∀ (a16 : Word), Q (.sta a16) (execSta a16))
    (lhld : ∀ (a16 : Word), Q (.lhld a16) (execLhld a16))
    (shld : ∀ (a16 : Word), Q (.shld a16) (execShld a16))
    (ldax : ∀ (p : PairBD), Q (Instr.ldax p) (fun s => loadReg .A (s.pair (pairOfBD p)) 1 s))
    (stax : ∀ (p : PairBD),
      Q (Instr.stax p) (fun s => storeByte (s.pair (pairOfBD p)) (s.reg .A) 1 s))
    (xchg : Q .xchg execXchg)
    (sphl : Q .sphl execSphl)
    (xthl : Q .xthl execXthl)
    (alu : ∀ (op : AluOp) (o : Operand), Q (Instr.alu op o) (withOperand (aluEffect op) o))
    (aluImm : ∀ (op : AluOp) (d8 : Byte), Q (Instr.aluImm op d8) (withImmediate (aluEffect op) d8))
    (inr : ∀ (o : Operand), Q (Instr.inr o) (incOperand o))
    (dcr : ∀ (o : Operand), Q (Instr.dcr o) (decOperand o))
    (inx : ∀ (p : PairSp), Q (Instr.inx p) (incPair p))
    (dcx : ∀ (p : PairSp), Q (Instr.dcx p) (decPair p))
    (dad : ∀ (p : PairSp), Q (Instr.dad p) (addToHl p))
    (rlc : Q .rlc execRlc)
    (rrc : Q .rrc execRrc)
    (ral : Q .ral execRal)
    (rar : Q .rar execRar)
    (cma : Q .cma execCma)
    (stc : Q .stc execStc)
    (cmc : Q .cmc execCmc)
    (daa : Q .daa execDaa)
    (push : ∀ (p : PairPsw), Q (Instr.push p) (pushPair p))
    (pop : ∀ (p : PairPsw), Q (Instr.pop p) (popPair p))
    (jmp : ∀ (a16 : Word), Q (.jmp a16) (execJmp a16))
    (jcc : ∀ (c : Cond) (a16 : Word), Q (Instr.jcc c a16) (jumpIf c a16))
    (pchl : Q .pchl execPchl)
    (call : ∀ (a16 : Word), Q (.call a16) (callSub a16))
    (ccc : ∀ (c : Cond) (a16 : Word), Q (Instr.ccc c a16) (callIf c a16))
    (ret : Q .ret returnSub)
    (rcc : ∀ (c : Cond), Q (Instr.rcc c) (returnIf c))
    (rst : ∀ (n : Fin 8), Q (Instr.rst n) (restart n))
    (inp : ∀ (p8 : Byte), Q (.inp p8) (execInp p8))
    (out : ∀ (p8 : Byte), Q (.out p8) (execOut p8))
    (ei : Q .ei execEi)
    (di : Q .di execDi)
    (hlt : Q .hlt execHlt)
    (nop : Q .nop execNop)
    (i : Instr) : Q i (exec i) := by
  cases i with
  | undocumented op => exact undocumented op
  | nop => exact nop
  | lxiB d16 => exact lxi (.pair .BC) d16
  | staxB => exact stax .BC
  | inxB => exact inx (.pair .BC)
  | inrB => exact inr (.reg .B)
  | dcrB => exact dcr (.reg .B)
  | mviB d8 => exact mviR .B d8
  | rlc => exact rlc
  | dadB => exact dad (.pair .BC)
  | ldaxB => exact ldax .BC
  | dcxB => exact dcx (.pair .BC)
  | inrC => exact inr (.reg .C)
  | dcrC => exact dcr (.reg .C)
  | mviC d8 => exact mviR .C d8
  | rrc => exact rrc
  | lxiD d16 => exact lxi (.pair .DE) d16
  | staxD => exact stax .DE
  | inxD => exact inx (.pair .DE)
  | inrD => exact inr (.reg .D)
  | dcrD => exact dcr (.reg .D)
  | mviD d8 => exact mviR .D d8
  | ral => exact ral
  | dadD => exact dad (.pair .DE)
  | ldaxD => exact ldax .DE
  | dcxD => exact dcx (.pair .DE)
  | inrE => exact inr (.reg .E)
  | dcrE => exact dcr (.reg .E)
  | mviE d8 => exact mviR .E d8
  | rar => exact rar
  | lxiH d16 => exact lxi (.pair .HL) d16
  | shld a16 => exact shld a16
  | inxH => exact inx (.pair .HL)
  | inrH => exact inr (.reg .H)
  | dcrH => exact dcr (.reg .H)
  | mviH d8 => exact mviR .H d8
  | daa => exact daa
  | dadH => exact dad (.pair .HL)
  | lhld a16 => exact lhld a16
  | dcxH => exact dcx (.pair .HL)
  | inrL => exact inr (.reg .L)
  | dcrL => exact dcr (.reg .L)
  | mviL d8 => exact mviR .L d8
  | cma => exact cma
  | lxiSp d16 => exact lxi .SP d16
  | sta a16 => exact sta a16
  | inxSp => exact inx .SP
  | inrM => exact inr .M
  | dcrM => exact dcr .M
  | mviM d8 => exact mviM d8
  | stc => exact stc
  | dadSp => exact dad .SP
  | lda a16 => exact lda a16
  | dcxSp => exact dcx .SP
  | inrA => exact inr (.reg .A)
  | dcrA => exact dcr (.reg .A)
  | mviA d8 => exact mviR .A d8
  | cmc => exact cmc
  | movBB => exact movRR .B .B
  | movBC => exact movRR .B .C
  | movBD => exact movRR .B .D
  | movBE => exact movRR .B .E
  | movBH => exact movRR .B .H
  | movBL => exact movRR .B .L
  | movBM => exact movRM .B
  | movBA => exact movRR .B .A
  | movCB => exact movRR .C .B
  | movCC => exact movRR .C .C
  | movCD => exact movRR .C .D
  | movCE => exact movRR .C .E
  | movCH => exact movRR .C .H
  | movCL => exact movRR .C .L
  | movCM => exact movRM .C
  | movCA => exact movRR .C .A
  | movDB => exact movRR .D .B
  | movDC => exact movRR .D .C
  | movDD => exact movRR .D .D
  | movDE => exact movRR .D .E
  | movDH => exact movRR .D .H
  | movDL => exact movRR .D .L
  | movDM => exact movRM .D
  | movDA => exact movRR .D .A
  | movEB => exact movRR .E .B
  | movEC => exact movRR .E .C
  | movED => exact movRR .E .D
  | movEE => exact movRR .E .E
  | movEH => exact movRR .E .H
  | movEL => exact movRR .E .L
  | movEM => exact movRM .E
  | movEA => exact movRR .E .A
  | movHB => exact movRR .H .B
  | movHC => exact movRR .H .C
  | movHD => exact movRR .H .D
  | movHE => exact movRR .H .E
  | movHH => exact movRR .H .H
  | movHL => exact movRR .H .L
  | movHM => exact movRM .H
  | movHA => exact movRR .H .A
  | movLB => exact movRR .L .B
  | movLC => exact movRR .L .C
  | movLD => exact movRR .L .D
  | movLE => exact movRR .L .E
  | movLH => exact movRR .L .H
  | movLL => exact movRR .L .L
  | movLM => exact movRM .L
  | movLA => exact movRR .L .A
  | movMB => exact movMR .B
  | movMC => exact movMR .C
  | movMD => exact movMR .D
  | movME => exact movMR .E
  | movMH => exact movMR .H
  | movML => exact movMR .L
  | hlt => exact hlt
  | movMA => exact movMR .A
  | movAB => exact movRR .A .B
  | movAC => exact movRR .A .C
  | movAD => exact movRR .A .D
  | movAE => exact movRR .A .E
  | movAH => exact movRR .A .H
  | movAL => exact movRR .A .L
  | movAM => exact movRM .A
  | movAA => exact movRR .A .A
  | addB => exact alu .add (.reg .B)
  | addC => exact alu .add (.reg .C)
  | addD => exact alu .add (.reg .D)
  | addE => exact alu .add (.reg .E)
  | addH => exact alu .add (.reg .H)
  | addL => exact alu .add (.reg .L)
  | addM => exact alu .add .M
  | addA => exact alu .add (.reg .A)
  | adcB => exact alu .adc (.reg .B)
  | adcC => exact alu .adc (.reg .C)
  | adcD => exact alu .adc (.reg .D)
  | adcE => exact alu .adc (.reg .E)
  | adcH => exact alu .adc (.reg .H)
  | adcL => exact alu .adc (.reg .L)
  | adcM => exact alu .adc .M
  | adcA => exact alu .adc (.reg .A)
  | subB => exact alu .sub (.reg .B)
  | subC => exact alu .sub (.reg .C)
  | subD => exact alu .sub (.reg .D)
  | subE => exact alu .sub (.reg .E)
  | subH => exact alu .sub (.reg .H)
  | subL => exact alu .sub (.reg .L)
  | subM => exact alu .sub .M
  | subA => exact alu .sub (.reg .A)
  | sbbB => exact alu .sbb (.reg .B)
  | sbbC => exact alu .sbb (.reg .C)
  | sbbD => exact alu .sbb (.reg .D)
  | sbbE => exact alu .sbb (.reg .E)
  | sbbH => exact alu .sbb (.reg .H)
  | sbbL => exact alu .sbb (.reg .L)
  | sbbM => exact alu .sbb .M
  | sbbA => exact alu .sbb (.reg .A)
  | anaB => exact alu .ana (.reg .B)
  | anaC => exact alu .ana (.reg .C)
  | anaD => exact alu .ana (.reg .D)
  | anaE => exact alu .ana (.reg .E)
  | anaH => exact alu .ana (.reg .H)
  | anaL => exact alu .ana (.reg .L)
  | anaM => exact alu .ana .M
  | anaA => exact alu .ana (.reg .A)
  | xraB => exact alu .xra (.reg .B)
  | xraC => exact alu .xra (.reg .C)
  | xraD => exact alu .xra (.reg .D)
  | xraE => exact alu .xra (.reg .E)
  | xraH => exact alu .xra (.reg .H)
  | xraL => exact alu .xra (.reg .L)
  | xraM => exact alu .xra .M
  | xraA => exact alu .xra (.reg .A)
  | oraB => exact alu .ora (.reg .B)
  | oraC => exact alu .ora (.reg .C)
  | oraD => exact alu .ora (.reg .D)
  | oraE => exact alu .ora (.reg .E)
  | oraH => exact alu .ora (.reg .H)
  | oraL => exact alu .ora (.reg .L)
  | oraM => exact alu .ora .M
  | oraA => exact alu .ora (.reg .A)
  | cmpB => exact alu .cmp (.reg .B)
  | cmpC => exact alu .cmp (.reg .C)
  | cmpD => exact alu .cmp (.reg .D)
  | cmpE => exact alu .cmp (.reg .E)
  | cmpH => exact alu .cmp (.reg .H)
  | cmpL => exact alu .cmp (.reg .L)
  | cmpM => exact alu .cmp .M
  | cmpA => exact alu .cmp (.reg .A)
  | rnz => exact rcc .NZ
  | popB => exact pop (.pair .BC)
  | jnz a16 => exact jcc .NZ a16
  | jmp a16 => exact jmp a16
  | cnz a16 => exact ccc .NZ a16
  | pushB => exact push (.pair .BC)
  | adi d8 => exact aluImm .add d8
  | rst0 => exact rst 0
  | rz => exact rcc .Z
  | ret => exact ret
  | jz a16 => exact jcc .Z a16
  | cz a16 => exact ccc .Z a16
  | call a16 => exact call a16
  | aci d8 => exact aluImm .adc d8
  | rst1 => exact rst 1
  | rnc => exact rcc .NC
  | popD => exact pop (.pair .DE)
  | jnc a16 => exact jcc .NC a16
  | out p8 => exact out p8
  | cnc a16 => exact ccc .NC a16
  | pushD => exact push (.pair .DE)
  | sui d8 => exact aluImm .sub d8
  | rst2 => exact rst 2
  | rc => exact rcc .C
  | jc a16 => exact jcc .C a16
  | inp p8 => exact inp p8
  | cc a16 => exact ccc .C a16
  | sbi d8 => exact aluImm .sbb d8
  | rst3 => exact rst 3
  | rpo => exact rcc .PO
  | popH => exact pop (.pair .HL)
  | jpo a16 => exact jcc .PO a16
  | xthl => exact xthl
  | cpo a16 => exact ccc .PO a16
  | pushH => exact push (.pair .HL)
  | ani d8 => exact aluImm .ana d8
  | rst4 => exact rst 4
  | rpe => exact rcc .PE
  | pchl => exact pchl
  | jpe a16 => exact jcc .PE a16
  | xchg => exact xchg
  | cpe a16 => exact ccc .PE a16
  | xri d8 => exact aluImm .xra d8
  | rst5 => exact rst 5
  | rp => exact rcc .P
  | popPsw => exact pop .PSW
  | jp a16 => exact jcc .P a16
  | di => exact di
  | cp a16 => exact ccc .P a16
  | pushPsw => exact push .PSW
  | ori d8 => exact aluImm .ora d8
  | rst6 => exact rst 6
  | rm => exact rcc .M
  | sphl => exact sphl
  | jm a16 => exact jcc .M a16
  | ei => exact ei
  | cm a16 => exact ccc .M a16
  | cpi d8 => exact aluImm .cmp d8
  | rst7 => exact rst 7

/-! ### What an instruction does to the configuration and to memory -/

/-- What every instruction that completes leaves: the same configuration, and memory changed only by
writes to writable bytes (R35, R55). -/
def WritesOnly (f : State → Result) : Prop :=
  ∀ s t, f s = .next t → t.cfg = s.cfg ∧ Writes s.cfg s.mem t.mem

theorem writesOnly_next {g : State → State} (hc : ∀ s, (g s).cfg = s.cfg)
    (hm : ∀ s, (g s).mem = s.mem) : WritesOnly fun s => .next (g s) := by
  intro s t h
  cases h
  exact ⟨hc s, by rw [hm]; exact .none⟩

theorem writesOnly_loadReg (d : Reg) (a : State → Word) (len : Word) :
    WritesOnly fun s => loadReg d (a s) len s := by
  intro s t h
  obtain ⟨v, -, h⟩ := attempt_next h
  cases h
  exact ⟨rfl, .none⟩

theorem writesOnly_storeByte (a : State → Word) (v : State → Byte) (len : Word) :
    WritesOnly fun s => storeByte (a s) (v s) len s := by
  intro s t h
  obtain ⟨u, hu, h⟩ := attempt_next h
  obtain ⟨m, rfl, hw, -⟩ := memWrite_ok hu
  cases h
  exact ⟨rfl, hw⟩

theorem aluEffect_frame (op : AluOp) (v : Byte) (s : State) :
    (aluEffect op v s).cfg = s.cfg ∧ (aluEffect op v s).mem = s.mem := by
  cases op <;> exact ⟨rfl, rfl⟩

theorem writeOperand_ok {s t : State} {o : Operand} {v : Byte}
    (h : writeOperand s o v = .ok t) : t.cfg = s.cfg ∧ Writes s.cfg s.mem t.mem := by
  cases o with
  | reg r => cases h; exact ⟨rfl, .none⟩
  | M =>
    obtain ⟨m, rfl, hw, -⟩ := memWrite_ok h
    exact ⟨rfl, hw⟩

theorem writesOnly_callTo (ret target : State → Word) :
    WritesOnly fun s => attempt (callTo s (ret s) (target s)) fun t => .next t := by
  intro s t h
  obtain ⟨u, hu, h⟩ := attempt_next h
  obtain ⟨m, rfl, hw, -⟩ := callTo_ok hu
  cases h
  exact ⟨rfl, hw⟩

theorem writesOnly_returnSub : WritesOnly returnSub := by
  intro s t h
  obtain ⟨u, hu, h⟩ := attempt_next h
  obtain ⟨v, -, rfl⟩ := returnFrom_ok hu
  cases h
  exact ⟨rfl, .none⟩

/-- What every instruction does to the configuration and to memory (R35, R54, R55). -/
theorem exec_writes (i : Instr) : WritesOnly (exec i) := by
  refine exec_cases (Q := fun _ f => WritesOnly f) ?undocumented ?movRR ?movRM ?movMR ?mviR ?mviM
    ?lxi ?lda ?sta ?lhld ?shld ?ldax ?stax ?xchg ?sphl ?xthl ?alu ?aluImm ?inr ?dcr ?inx ?dcx ?dad
    ?rlc ?rrc ?ral ?rar ?cma ?stc ?cmc ?daa ?push ?pop ?jmp ?jcc ?pchl ?call ?ccc ?ret ?rcc ?rst
    ?inp ?out ?ei ?di ?hlt ?nop i
  case undocumented => intro op s t h; cases h
  case movRM => exact fun d => writesOnly_loadReg d _ 1
  case movMR => exact fun r => writesOnly_storeByte _ _ 1
  case mviM => exact fun d8 => writesOnly_storeByte _ _ 2
  case lda => exact fun a16 => writesOnly_loadReg .A (fun _ => a16) 3
  case sta => exact fun a16 => writesOnly_storeByte (fun _ => a16) _ 3
  case ldax => exact fun p => writesOnly_loadReg .A _ 1
  case stax => exact fun p => writesOnly_storeByte _ _ 1
  case lhld =>
    intro a16 s t h
    obtain ⟨v, -, h⟩ := attempt_next h
    cases h
    exact ⟨rfl, .none⟩
  case shld =>
    intro a16 s t h
    obtain ⟨u, hu, h⟩ := attempt_next h
    obtain ⟨m, rfl, hw, -⟩ := writeWord_ok hu
    cases h
    exact ⟨rfl, hw⟩
  case xthl =>
    intro s t h
    obtain ⟨u, hu, h⟩ := attempt_next h
    cases h
    unfold exchangeStackTop at hu
    split at hu
    · cases hu
    · split at hu
      · cases hu
      · rename_i h1
        obtain ⟨m, rfl, hw, -⟩ := writeWord_ok h1
        cases hu
        exact ⟨rfl, hw⟩
  case alu =>
    intro op o s t h
    obtain ⟨v, -, h⟩ := attempt_next h
    cases h
    exact ⟨(aluEffect_frame op v s).1, by
      rw [mem_advance, (aluEffect_frame op v s).2]; exact .none⟩
  case aluImm =>
    exact fun op d8 => writesOnly_next (g := fun s => (aluEffect op d8 s).advance 2)
      (fun s => (aluEffect_frame op d8 s).1) (fun s => (aluEffect_frame op d8 s).2)
  case inr =>
    intro o s t h
    obtain ⟨v, -, h⟩ := attempt_next h
    obtain ⟨u, hu, h⟩ := attempt_next h
    cases h
    exact ⟨(writeOperand_ok hu).1, (writeOperand_ok hu).2⟩
  case dcr =>
    intro o s t h
    obtain ⟨v, -, h⟩ := attempt_next h
    obtain ⟨u, hu, h⟩ := attempt_next h
    cases h
    exact ⟨(writeOperand_ok hu).1, (writeOperand_ok hu).2⟩
  case lxi => intro p d16 s t h; cases h; cases p <;> exact ⟨rfl, .none⟩
  case inx => intro p s t h; cases h; cases p <;> exact ⟨rfl, .none⟩
  case dcx => intro p s t h; cases h; cases p <;> exact ⟨rfl, .none⟩
  case push =>
    intro p s t h
    obtain ⟨u, hu, h⟩ := attempt_next h
    obtain ⟨m, rfl, hw, -⟩ := push16_ok hu
    cases h
    exact ⟨rfl, hw⟩
  case pop =>
    intro p s t h
    obtain ⟨⟨v, u⟩, hu, h⟩ := attempt_next h
    obtain ⟨-, rfl⟩ := pop16_ok hu
    cases h
    cases p <;> exact ⟨rfl, .none⟩
  case jcc =>
    intro c a16 s t h
    cases h
    split <;> exact ⟨rfl, .none⟩
  case call => exact fun a16 => writesOnly_callTo (fun s => s.pc + 3) (fun _ => a16)
  case ccc =>
    intro c a16 s t h
    unfold callIf at h
    split at h
    · exact writesOnly_callTo (fun s => s.pc + 3) (fun _ => a16) s t h
    · cases h; exact ⟨rfl, .none⟩
  case ret => exact writesOnly_returnSub
  case rcc =>
    intro c s t h
    unfold returnIf at h
    split at h
    · exact writesOnly_returnSub s t h
    · cases h; exact ⟨rfl, .none⟩
  case rst => exact fun n => writesOnly_callTo (fun s => s.pc + 1) (fun _ => vectorAddress n)
  all_goals
    intros
    intro s t h
    cases h
    exact ⟨rfl, .none⟩

end Sys2Proof.Machine
end

