-- ==== Sys2Proof/Laws/Cycles.lean ====
section
/-!
SUPPORT. The cycle counts by shape: the condition and the alternate cost of each conditional shape,
and that no other instruction has one (R278, R279).
-/

namespace Sys2Proof.Machine

theorem conditionalCost_jcc (c : Cond) (a16 : Word) :
    conditionalCost (opcodeOf (Instr.jcc c a16)) = some (c, 10) := by
  cases c <;> (simp only [Instr.jcc, opcodeOf, encode, List.headD]; rfl)

theorem conditionalCost_ccc (c : Cond) (a16 : Word) :
    conditionalCost (opcodeOf (Instr.ccc c a16)) = some (c, 11) := by
  cases c <;> (simp only [Instr.ccc, opcodeOf, encode, List.headD]; rfl)

theorem conditionalCost_rcc (c : Cond) :
    conditionalCost (opcodeOf (Instr.rcc c)) = some (c, 5) := by
  cases c <;> (simp only [Instr.rcc, opcodeOf, encode, List.headD]; rfl)

/-- An opcode with no entry in the configuration. -/
theorem configuredCycles_none {c : Config} {op : Byte} (h : ∀ e ∈ c.cycles, e.opcode ≠ op) :
    configuredCycles c op = none := by
  simpa [configuredCycles] using h

/-- An opcode with an entry in the configuration: the first one. -/
theorem configuredCycles_first {c : Config} {op : Byte} {before after : List CycleEntry}
    {e : CycleEntry} (hc : c.cycles = before ++ e :: after) (he : e.opcode = op)
    (hb : ∀ d ∈ before, d.opcode ≠ op) : configuredCycles c op = some e := by
  have hn : before.find? (fun d => d.opcode == op) = none := by simpa using hb
  simp [configuredCycles, hc, hn, he]

/-- The costs in the default table. -/
theorem baseCost_default {c : Config} {op : Byte} (h : configuredCycles c op = none) :
    baseCost c op = baseCycles.getD op.toNat 0 := by
  simp [baseCost, h]

theorem alternateCost_default {c : Config} {op : Byte} (h : configuredCycles c op = none)
    (alt : Nat) : alternateCost c op alt = alt := by
  simp [alternateCost, h]

/-- A conditional jump costs 10 either way. -/
theorem cyclesOf_jcc {cfg : Config} {c : Cond} {a16 : Word}
    (h : configuredCycles cfg (opcodeOf (Instr.jcc c a16)) = none) (f : Flags) :
    cyclesOf cfg (Instr.jcc c a16) f = 10 := by
  have base : baseCycles.getD (opcodeOf (Instr.jcc c a16)).toNat 0 = 10 := by cases c <;> rfl
  simp only [cyclesOf, conditionalCost_jcc, baseCost_default h, alternateCost_default h, base,
    ite_self]

theorem cyclesOf_ccc {cfg : Config} {c : Cond} {a16 : Word}
    (h : configuredCycles cfg (opcodeOf (Instr.ccc c a16)) = none) (f : Flags) :
    cyclesOf cfg (Instr.ccc c a16) f = if condHolds c f then 17 else 11 := by
  have base : baseCycles.getD (opcodeOf (Instr.ccc c a16)).toNat 0 = 17 := by cases c <;> rfl
  simp only [cyclesOf, conditionalCost_ccc, baseCost_default h, alternateCost_default h, base]

theorem cyclesOf_rcc {cfg : Config} {c : Cond}
    (h : configuredCycles cfg (opcodeOf (Instr.rcc c)) = none) (f : Flags) :
    cyclesOf cfg (Instr.rcc c) f = if condHolds c f then 11 else 5 := by
  have base : baseCycles.getD (opcodeOf (Instr.rcc c)).toNat 0 = 11 := by cases c <;> rfl
  simp only [cyclesOf, conditionalCost_rcc, baseCost_default h, alternateCost_default h, base]

/-- An instruction with no alternate cost costs the base cost of its opcode. -/
theorem cyclesOf_base {cfg : Config} {i : Instr} (hi : conditionalCost (opcodeOf i) = none)
    (h : configuredCycles cfg (opcodeOf i) = none) (f : Flags) :
    cyclesOf cfg i f = baseCycles.getD (opcodeOf i).toNat 0 := by
  simp only [cyclesOf, hi, baseCost_default h]

/-- The opcodes that have no alternate cost: all but those of `Rcc`, `Jcc`, `Ccc`. -/
theorem conditionalCost_none {op : Byte}
    (h : ∀ z : Fin 8, z ∈ [0, 2, 4] → ¬ (fieldX op = 3 ∧ fieldZ op = z)) :
    conditionalCost op = none := by
  unfold conditionalCost
  split
  · exact absurd ⟨‹_›, ‹_›⟩ (h 0 (by decide))
  · exact absurd ⟨‹_›, ‹_›⟩ (h 2 (by decide))
  · exact absurd ⟨‹_›, ‹_›⟩ (h 4 (by decide))
  · rfl

end Sys2Proof.Machine
end

