-- ==== Sys2Proof/Laws/PerInstr.lean ====
section
/-!
SUPPORT. The family EncodeLength: the number of bytes `encode` gives an instruction is the length
that its opcode byte has in the table of R83, which is what `decode` and `fetch` go by.
-/

namespace Sys2Proof.Laws

/-- A well-formed instruction is encoded in as many bytes as its opcode's length (R83). -/
def EncodeLength.Statement (i : Instr) : Prop :=
  i.wellFormed = true → (encode i).length = opLength (opcodeOf i)

theorem EncodeLength.undocumented_bytes :
    undocumentedBytes.all (fun op => opLength op == 1) = true := by decide

theorem EncodeLength.undocumented (op : Byte) : Statement (.undocumented op) := by
  intro h
  have h' : op ∈ undocumentedBytes := by simpa [Instr.wellFormed] using h
  exact (beq_iff_eq.mp (List.all_eq_true.mp EncodeLength.undocumented_bytes op h')).symm

theorem EncodeLength.nop : Statement .nop := fun _ => rfl
theorem EncodeLength.lxiB (d16 : Word) : Statement (.lxiB d16) := fun _ => rfl
theorem EncodeLength.staxB : Statement .staxB := fun _ => rfl
theorem EncodeLength.inxB : Statement .inxB := fun _ => rfl
theorem EncodeLength.inrB : Statement .inrB := fun _ => rfl
theorem EncodeLength.dcrB : Statement .dcrB := fun _ => rfl
theorem EncodeLength.mviB (d8 : Byte) : Statement (.mviB d8) := fun _ => rfl
theorem EncodeLength.rlc : Statement .rlc := fun _ => rfl
theorem EncodeLength.dadB : Statement .dadB := fun _ => rfl
theorem EncodeLength.ldaxB : Statement .ldaxB := fun _ => rfl
theorem EncodeLength.dcxB : Statement .dcxB := fun _ => rfl
theorem EncodeLength.inrC : Statement .inrC := fun _ => rfl
theorem EncodeLength.dcrC : Statement .dcrC := fun _ => rfl
theorem EncodeLength.mviC (d8 : Byte) : Statement (.mviC d8) := fun _ => rfl
theorem EncodeLength.rrc : Statement .rrc := fun _ => rfl
theorem EncodeLength.lxiD (d16 : Word) : Statement (.lxiD d16) := fun _ => rfl
theorem EncodeLength.staxD : Statement .staxD := fun _ => rfl
theorem EncodeLength.inxD : Statement .inxD := fun _ => rfl
theorem EncodeLength.inrD : Statement .inrD := fun _ => rfl
theorem EncodeLength.dcrD : Statement .dcrD := fun _ => rfl
theorem EncodeLength.mviD (d8 : Byte) : Statement (.mviD d8) := fun _ => rfl
theorem EncodeLength.ral : Statement .ral := fun _ => rfl
theorem EncodeLength.dadD : Statement .dadD := fun _ => rfl
theorem EncodeLength.ldaxD : Statement .ldaxD := fun _ => rfl
theorem EncodeLength.dcxD : Statement .dcxD := fun _ => rfl
theorem EncodeLength.inrE : Statement .inrE := fun _ => rfl
theorem EncodeLength.dcrE : Statement .dcrE := fun _ => rfl
theorem EncodeLength.mviE (d8 : Byte) : Statement (.mviE d8) := fun _ => rfl
theorem EncodeLength.rar : Statement .rar := fun _ => rfl
theorem EncodeLength.lxiH (d16 : Word) : Statement (.lxiH d16) := fun _ => rfl
theorem EncodeLength.shld (a16 : Word) : Statement (.shld a16) := fun _ => rfl
theorem EncodeLength.inxH : Statement .inxH := fun _ => rfl
theorem EncodeLength.inrH : Statement .inrH := fun _ => rfl
theorem EncodeLength.dcrH : Statement .dcrH := fun _ => rfl
theorem EncodeLength.mviH (d8 : Byte) : Statement (.mviH d8) := fun _ => rfl
theorem EncodeLength.daa : Statement .daa := fun _ => rfl
theorem EncodeLength.dadH : Statement .dadH := fun _ => rfl
theorem EncodeLength.lhld (a16 : Word) : Statement (.lhld a16) := fun _ => rfl
theorem EncodeLength.dcxH : Statement .dcxH := fun _ => rfl
theorem EncodeLength.inrL : Statement .inrL := fun _ => rfl
theorem EncodeLength.dcrL : Statement .dcrL := fun _ => rfl
theorem EncodeLength.mviL (d8 : Byte) : Statement (.mviL d8) := fun _ => rfl
theorem EncodeLength.cma : Statement .cma := fun _ => rfl
theorem EncodeLength.lxiSp (d16 : Word) : Statement (.lxiSp d16) := fun _ => rfl
theorem EncodeLength.sta (a16 : Word) : Statement (.sta a16) := fun _ => rfl
theorem EncodeLength.inxSp : Statement .inxSp := fun _ => rfl
theorem EncodeLength.inrM : Statement .inrM := fun _ => rfl
theorem EncodeLength.dcrM : Statement .dcrM := fun _ => rfl
theorem EncodeLength.mviM (d8 : Byte) : Statement (.mviM d8) := fun _ => rfl
theorem EncodeLength.stc : Statement .stc := fun _ => rfl
theorem EncodeLength.dadSp : Statement .dadSp := fun _ => rfl
theorem EncodeLength.lda (a16 : Word) : Statement (.lda a16) := fun _ => rfl
theorem EncodeLength.dcxSp : Statement .dcxSp := fun _ => rfl
theorem EncodeLength.inrA : Statement .inrA := fun _ => rfl
theorem EncodeLength.dcrA : Statement .dcrA := fun _ => rfl
theorem EncodeLength.mviA (d8 : Byte) : Statement (.mviA d8) := fun _ => rfl
theorem EncodeLength.cmc : Statement .cmc := fun _ => rfl
theorem EncodeLength.movBB : Statement .movBB := fun _ => rfl
theorem EncodeLength.movBC : Statement .movBC := fun _ => rfl
theorem EncodeLength.movBD : Statement .movBD := fun _ => rfl
theorem EncodeLength.movBE : Statement .movBE := fun _ => rfl
theorem EncodeLength.movBH : Statement .movBH := fun _ => rfl
theorem EncodeLength.movBL : Statement .movBL := fun _ => rfl
theorem EncodeLength.movBM : Statement .movBM := fun _ => rfl
theorem EncodeLength.movBA : Statement .movBA := fun _ => rfl
theorem EncodeLength.movCB : Statement .movCB := fun _ => rfl
theorem EncodeLength.movCC : Statement .movCC := fun _ => rfl
theorem EncodeLength.movCD : Statement .movCD := fun _ => rfl
theorem EncodeLength.movCE : Statement .movCE := fun _ => rfl
theorem EncodeLength.movCH : Statement .movCH := fun _ => rfl
theorem EncodeLength.movCL : Statement .movCL := fun _ => rfl
theorem EncodeLength.movCM : Statement .movCM := fun _ => rfl
theorem EncodeLength.movCA : Statement .movCA := fun _ => rfl
theorem EncodeLength.movDB : Statement .movDB := fun _ => rfl
theorem EncodeLength.movDC : Statement .movDC := fun _ => rfl
theorem EncodeLength.movDD : Statement .movDD := fun _ => rfl
theorem EncodeLength.movDE : Statement .movDE := fun _ => rfl
theorem EncodeLength.movDH : Statement .movDH := fun _ => rfl
theorem EncodeLength.movDL : Statement .movDL := fun _ => rfl
theorem EncodeLength.movDM : Statement .movDM := fun _ => rfl
theorem EncodeLength.movDA : Statement .movDA := fun _ => rfl
theorem EncodeLength.movEB : Statement .movEB := fun _ => rfl
theorem EncodeLength.movEC : Statement .movEC := fun _ => rfl
theorem EncodeLength.movED : Statement .movED := fun _ => rfl
theorem EncodeLength.movEE : Statement .movEE := fun _ => rfl
theorem EncodeLength.movEH : Statement .movEH := fun _ => rfl
theorem EncodeLength.movEL : Statement .movEL := fun _ => rfl
theorem EncodeLength.movEM : Statement .movEM := fun _ => rfl
theorem EncodeLength.movEA : Statement .movEA := fun _ => rfl
theorem EncodeLength.movHB : Statement .movHB := fun _ => rfl
theorem EncodeLength.movHC : Statement .movHC := fun _ => rfl
theorem EncodeLength.movHD : Statement .movHD := fun _ => rfl
theorem EncodeLength.movHE : Statement .movHE := fun _ => rfl
theorem EncodeLength.movHH : Statement .movHH := fun _ => rfl
theorem EncodeLength.movHL : Statement .movHL := fun _ => rfl
theorem EncodeLength.movHM : Statement .movHM := fun _ => rfl
theorem EncodeLength.movHA : Statement .movHA := fun _ => rfl
theorem EncodeLength.movLB : Statement .movLB := fun _ => rfl
theorem EncodeLength.movLC : Statement .movLC := fun _ => rfl
theorem EncodeLength.movLD : Statement .movLD := fun _ => rfl
theorem EncodeLength.movLE : Statement .movLE := fun _ => rfl
theorem EncodeLength.movLH : Statement .movLH := fun _ => rfl
theorem EncodeLength.movLL : Statement .movLL := fun _ => rfl
theorem EncodeLength.movLM : Statement .movLM := fun _ => rfl
theorem EncodeLength.movLA : Statement .movLA := fun _ => rfl
theorem EncodeLength.movMB : Statement .movMB := fun _ => rfl
theorem EncodeLength.movMC : Statement .movMC := fun _ => rfl
theorem EncodeLength.movMD : Statement .movMD := fun _ => rfl
theorem EncodeLength.movME : Statement .movME := fun _ => rfl
theorem EncodeLength.movMH : Statement .movMH := fun _ => rfl
theorem EncodeLength.movML : Statement .movML := fun _ => rfl
theorem EncodeLength.hlt : Statement .hlt := fun _ => rfl
theorem EncodeLength.movMA : Statement .movMA := fun _ => rfl
theorem EncodeLength.movAB : Statement .movAB := fun _ => rfl
theorem EncodeLength.movAC : Statement .movAC := fun _ => rfl
theorem EncodeLength.movAD : Statement .movAD := fun _ => rfl
theorem EncodeLength.movAE : Statement .movAE := fun _ => rfl
theorem EncodeLength.movAH : Statement .movAH := fun _ => rfl
theorem EncodeLength.movAL : Statement .movAL := fun _ => rfl
theorem EncodeLength.movAM : Statement .movAM := fun _ => rfl
theorem EncodeLength.movAA : Statement .movAA := fun _ => rfl
theorem EncodeLength.addB : Statement .addB := fun _ => rfl
theorem EncodeLength.addC : Statement .addC := fun _ => rfl
theorem EncodeLength.addD : Statement .addD := fun _ => rfl
theorem EncodeLength.addE : Statement .addE := fun _ => rfl
theorem EncodeLength.addH : Statement .addH := fun _ => rfl
theorem EncodeLength.addL : Statement .addL := fun _ => rfl
theorem EncodeLength.addM : Statement .addM := fun _ => rfl
theorem EncodeLength.addA : Statement .addA := fun _ => rfl
theorem EncodeLength.adcB : Statement .adcB := fun _ => rfl
theorem EncodeLength.adcC : Statement .adcC := fun _ => rfl
theorem EncodeLength.adcD : Statement .adcD := fun _ => rfl
theorem EncodeLength.adcE : Statement .adcE := fun _ => rfl
theorem EncodeLength.adcH : Statement .adcH := fun _ => rfl
theorem EncodeLength.adcL : Statement .adcL := fun _ => rfl
theorem EncodeLength.adcM : Statement .adcM := fun _ => rfl
theorem EncodeLength.adcA : Statement .adcA := fun _ => rfl
theorem EncodeLength.subB : Statement .subB := fun _ => rfl
theorem EncodeLength.subC : Statement .subC := fun _ => rfl
theorem EncodeLength.subD : Statement .subD := fun _ => rfl
theorem EncodeLength.subE : Statement .subE := fun _ => rfl
theorem EncodeLength.subH : Statement .subH := fun _ => rfl
theorem EncodeLength.subL : Statement .subL := fun _ => rfl
theorem EncodeLength.subM : Statement .subM := fun _ => rfl
theorem EncodeLength.subA : Statement .subA := fun _ => rfl
theorem EncodeLength.sbbB : Statement .sbbB := fun _ => rfl
theorem EncodeLength.sbbC : Statement .sbbC := fun _ => rfl
theorem EncodeLength.sbbD : Statement .sbbD := fun _ => rfl
theorem EncodeLength.sbbE : Statement .sbbE := fun _ => rfl
theorem EncodeLength.sbbH : Statement .sbbH := fun _ => rfl
theorem EncodeLength.sbbL : Statement .sbbL := fun _ => rfl
theorem EncodeLength.sbbM : Statement .sbbM := fun _ => rfl
theorem EncodeLength.sbbA : Statement .sbbA := fun _ => rfl
theorem EncodeLength.anaB : Statement .anaB := fun _ => rfl
theorem EncodeLength.anaC : Statement .anaC := fun _ => rfl
theorem EncodeLength.anaD : Statement .anaD := fun _ => rfl
theorem EncodeLength.anaE : Statement .anaE := fun _ => rfl
theorem EncodeLength.anaH : Statement .anaH := fun _ => rfl
theorem EncodeLength.anaL : Statement .anaL := fun _ => rfl
theorem EncodeLength.anaM : Statement .anaM := fun _ => rfl
theorem EncodeLength.anaA : Statement .anaA := fun _ => rfl
theorem EncodeLength.xraB : Statement .xraB := fun _ => rfl
theorem EncodeLength.xraC : Statement .xraC := fun _ => rfl
theorem EncodeLength.xraD : Statement .xraD := fun _ => rfl
theorem EncodeLength.xraE : Statement .xraE := fun _ => rfl
theorem EncodeLength.xraH : Statement .xraH := fun _ => rfl
theorem EncodeLength.xraL : Statement .xraL := fun _ => rfl
theorem EncodeLength.xraM : Statement .xraM := fun _ => rfl
theorem EncodeLength.xraA : Statement .xraA := fun _ => rfl
theorem EncodeLength.oraB : Statement .oraB := fun _ => rfl
theorem EncodeLength.oraC : Statement .oraC := fun _ => rfl
theorem EncodeLength.oraD : Statement .oraD := fun _ => rfl
theorem EncodeLength.oraE : Statement .oraE := fun _ => rfl
theorem EncodeLength.oraH : Statement .oraH := fun _ => rfl
theorem EncodeLength.oraL : Statement .oraL := fun _ => rfl
theorem EncodeLength.oraM : Statement .oraM := fun _ => rfl
theorem EncodeLength.oraA : Statement .oraA := fun _ => rfl
theorem EncodeLength.cmpB : Statement .cmpB := fun _ => rfl
theorem EncodeLength.cmpC : Statement .cmpC := fun _ => rfl
theorem EncodeLength.cmpD : Statement .cmpD := fun _ => rfl
theorem EncodeLength.cmpE : Statement .cmpE := fun _ => rfl
theorem EncodeLength.cmpH : Statement .cmpH := fun _ => rfl
theorem EncodeLength.cmpL : Statement .cmpL := fun _ => rfl
theorem EncodeLength.cmpM : Statement .cmpM := fun _ => rfl
theorem EncodeLength.cmpA : Statement .cmpA := fun _ => rfl
theorem EncodeLength.rnz : Statement .rnz := fun _ => rfl
theorem EncodeLength.popB : Statement .popB := fun _ => rfl
theorem EncodeLength.jnz (a16 : Word) : Statement (.jnz a16) := fun _ => rfl
theorem EncodeLength.jmp (a16 : Word) : Statement (.jmp a16) := fun _ => rfl
theorem EncodeLength.cnz (a16 : Word) : Statement (.cnz a16) := fun _ => rfl
theorem EncodeLength.pushB : Statement .pushB := fun _ => rfl
theorem EncodeLength.adi (d8 : Byte) : Statement (.adi d8) := fun _ => rfl
theorem EncodeLength.rst0 : Statement .rst0 := fun _ => rfl
theorem EncodeLength.rz : Statement .rz := fun _ => rfl
theorem EncodeLength.ret : Statement .ret := fun _ => rfl
theorem EncodeLength.jz (a16 : Word) : Statement (.jz a16) := fun _ => rfl
theorem EncodeLength.cz (a16 : Word) : Statement (.cz a16) := fun _ => rfl
theorem EncodeLength.call (a16 : Word) : Statement (.call a16) := fun _ => rfl
theorem EncodeLength.aci (d8 : Byte) : Statement (.aci d8) := fun _ => rfl
theorem EncodeLength.rst1 : Statement .rst1 := fun _ => rfl
theorem EncodeLength.rnc : Statement .rnc := fun _ => rfl
theorem EncodeLength.popD : Statement .popD := fun _ => rfl
theorem EncodeLength.jnc (a16 : Word) : Statement (.jnc a16) := fun _ => rfl
theorem EncodeLength.out (p8 : Byte) : Statement (.out p8) := fun _ => rfl
theorem EncodeLength.cnc (a16 : Word) : Statement (.cnc a16) := fun _ => rfl
theorem EncodeLength.pushD : Statement .pushD := fun _ => rfl
theorem EncodeLength.sui (d8 : Byte) : Statement (.sui d8) := fun _ => rfl
theorem EncodeLength.rst2 : Statement .rst2 := fun _ => rfl
theorem EncodeLength.rc : Statement .rc := fun _ => rfl
theorem EncodeLength.jc (a16 : Word) : Statement (.jc a16) := fun _ => rfl
theorem EncodeLength.inp (p8 : Byte) : Statement (.inp p8) := fun _ => rfl
theorem EncodeLength.cc (a16 : Word) : Statement (.cc a16) := fun _ => rfl
theorem EncodeLength.sbi (d8 : Byte) : Statement (.sbi d8) := fun _ => rfl
theorem EncodeLength.rst3 : Statement .rst3 := fun _ => rfl
theorem EncodeLength.rpo : Statement .rpo := fun _ => rfl
theorem EncodeLength.popH : Statement .popH := fun _ => rfl
theorem EncodeLength.jpo (a16 : Word) : Statement (.jpo a16) := fun _ => rfl
theorem EncodeLength.xthl : Statement .xthl := fun _ => rfl
theorem EncodeLength.cpo (a16 : Word) : Statement (.cpo a16) := fun _ => rfl
theorem EncodeLength.pushH : Statement .pushH := fun _ => rfl
theorem EncodeLength.ani (d8 : Byte) : Statement (.ani d8) := fun _ => rfl
theorem EncodeLength.rst4 : Statement .rst4 := fun _ => rfl
theorem EncodeLength.rpe : Statement .rpe := fun _ => rfl
theorem EncodeLength.pchl : Statement .pchl := fun _ => rfl
theorem EncodeLength.jpe (a16 : Word) : Statement (.jpe a16) := fun _ => rfl
theorem EncodeLength.xchg : Statement .xchg := fun _ => rfl
theorem EncodeLength.cpe (a16 : Word) : Statement (.cpe a16) := fun _ => rfl
theorem EncodeLength.xri (d8 : Byte) : Statement (.xri d8) := fun _ => rfl
theorem EncodeLength.rst5 : Statement .rst5 := fun _ => rfl
theorem EncodeLength.rp : Statement .rp := fun _ => rfl
theorem EncodeLength.popPsw : Statement .popPsw := fun _ => rfl
theorem EncodeLength.jp (a16 : Word) : Statement (.jp a16) := fun _ => rfl
theorem EncodeLength.di : Statement .di := fun _ => rfl
theorem EncodeLength.cp (a16 : Word) : Statement (.cp a16) := fun _ => rfl
theorem EncodeLength.pushPsw : Statement .pushPsw := fun _ => rfl
theorem EncodeLength.ori (d8 : Byte) : Statement (.ori d8) := fun _ => rfl
theorem EncodeLength.rst6 : Statement .rst6 := fun _ => rfl
theorem EncodeLength.rm : Statement .rm := fun _ => rfl
theorem EncodeLength.sphl : Statement .sphl := fun _ => rfl
theorem EncodeLength.jm (a16 : Word) : Statement (.jm a16) := fun _ => rfl
theorem EncodeLength.ei : Statement .ei := fun _ => rfl
theorem EncodeLength.cm (a16 : Word) : Statement (.cm a16) := fun _ => rfl
theorem EncodeLength.cpi (d8 : Byte) : Statement (.cpi d8) := fun _ => rfl
theorem EncodeLength.rst7 : Statement .rst7 := fun _ => rfl

end Sys2Proof.Laws
end

