-- ==== Sys2Proof/Laws/Step.lean ====
section
/-!
SUPPORT. What one transition can do, said once: `step_cases` gives the three operations with what
each does, `step_writes` what any of them does to memory and the configuration, `run_succ_next` one
transition of a run.
-/

namespace Sys2Proof.Machine

variable {s t : State}

/-! ### The request that is consumed -/

@[simp] theorem nextRequest_regs (s : State) : (nextRequest s).2.regs = s.regs := by
  unfold nextRequest; split <;> rfl
@[simp] theorem nextRequest_flags (s : State) : (nextRequest s).2.flags = s.flags := by
  unfold nextRequest; split <;> rfl
@[simp] theorem nextRequest_pc (s : State) : (nextRequest s).2.pc = s.pc := by
  unfold nextRequest; split <;> rfl
@[simp] theorem nextRequest_sp (s : State) : (nextRequest s).2.sp = s.sp := by
  unfold nextRequest; split <;> rfl
@[simp] theorem nextRequest_ie (s : State) : (nextRequest s).2.ie = s.ie := by
  unfold nextRequest; split <;> rfl
@[simp] theorem nextRequest_halted (s : State) : (nextRequest s).2.halted = s.halted := by
  unfold nextRequest; split <;> rfl
@[simp] theorem nextRequest_mem (s : State) : (nextRequest s).2.mem = s.mem := by
  unfold nextRequest; split <;> rfl
@[simp] theorem nextRequest_cfg (s : State) : (nextRequest s).2.cfg = s.cfg := by
  unfold nextRequest; split <;> rfl
@[simp] theorem nextRequest_ioDraws (s : State) :
    (nextRequest s).2.host.ioDraws = s.host.ioDraws := by
  unfold nextRequest; split <;> rfl
@[simp] theorem nextRequest_ioEvents (s : State) :
    (nextRequest s).2.host.ioEvents = s.host.ioEvents := by
  unfold nextRequest; split <;> rfl
@[simp] theorem nextRequest_reg (s : State) (r : Reg) : (nextRequest s).2.reg r = s.reg r := by
  simp [State.reg]
@[simp] theorem nextRequest_fetch (s : State) : fetch (nextRequest s).2 = fetch s := by
  unfold nextRequest; split <;> rfl
@[simp] theorem nextRequest_storable (s : State) (a : Word) :
    Storable (nextRequest s).2 a ↔ Storable s a := by
  simp [Storable]

/-! ### The step -/

/-- A report that goes on reports its count. -/
theorem reportCycles_next {n : Nat} {r : Result} (h : reportCycles n r = .next t) :
    ∃ u, r = .next u ∧ t = u.withReport (some n) := by
  cases r with
  | next u => cases h; exact ⟨u, rfl, rfl⟩
  | fault f => cases h
  | refused q => cases h

/-- `Step()` that answers a state fetched an instruction and executed it (R38). -/
theorem instructionStep_next (h : instructionStep s = .next t) :
    s.halted = false ∧ ∃ i u, fetch s = .ok i ∧ exec i s = .next u ∧
      t = u.withReport (some (cyclesOf s.cfg i s.flags)) := by
  unfold instructionStep at h
  split at h
  · cases h
  · rename_i hh
    obtain ⟨i, hi, h⟩ := attempt_next h
    obtain ⟨u, hu, rfl⟩ := reportCycles_next h
    exact ⟨by simpa using hh, i, u, hi, hu, rfl⟩

/-- Everything a transition that answers a state can be: an executed instruction, an interrupt
ignored or taken, a reset. -/
theorem step_cases (h : step s = .next t) :
    ((nextRequest s).1 = .step ∧ s.halted = false ∧
      ∃ i u, fetch s = .ok i ∧ exec i (nextRequest s).2 = .next u ∧
        t = u.withReport (some (cyclesOf s.cfg i s.flags))) ∨
    (∃ n, (nextRequest s).1 = .interrupt n ∧ s.halted = false ∧
      ((s.ie = false ∧ t = (nextRequest s).2.withReport none) ∨
       (s.ie = true ∧ ∃ u, takeInterrupt (nextRequest s).2 n = .ok u ∧
         t = u.withReport (some Config.intCycles)))) ∨
    ((nextRequest s).1 = .reset ∧ t = resetOperation (nextRequest s).2) := by
  unfold step at h
  cases hr : (nextRequest s).1 with
  | step =>
    rw [hr] at h
    simpa using instructionStep_next h
  | interrupt n =>
    rw [hr] at h
    simpa using interruptStep_next h
  | reset =>
    rw [hr] at h
    cases h
    simp

/-- What any transition does to the configuration and to memory: nothing but writes to writable
bytes of the array (R35, R55, R63). -/
theorem step_writes (h : step s = .next t) : t.cfg = s.cfg ∧ Writes s.cfg s.mem t.mem := by
  rcases step_cases h with ⟨-, -, i, u, -, hu, rfl⟩ | ⟨n, -, -, ⟨-, rfl⟩ | ⟨-, u, hu, rfl⟩⟩ | ⟨-, rfl⟩
  · simpa [State.withReport] using exec_writes i _ _ hu
  · simpa [State.withReport] using Writes.none
  · obtain ⟨m, rfl, hw, -⟩ := takeInterrupt_ok hu
    simpa [State.withReport] using hw
  · simpa [resetOperation] using Writes.none

/-- One transition of a run of any machine. -/
theorem run_succ_of (M : Host.Core) (k : Nat) (s t : M.State) : M.run (k + 1) s = .next t ↔
    ∃ u, M.step s = .next u ∧ M.run k u = .next t := by
  rw [Host.Core.run.eq_def]
  dsimp only
  cases M.step s with
  | next u => exact ⟨fun h => ⟨u, rfl, h⟩, fun ⟨_, h, h'⟩ => by cases h; exact h'⟩
  | fault f => exact ⟨fun h => (nomatch h), fun ⟨_, h, _⟩ => (nomatch h)⟩
  | refused q => exact ⟨fun h => (nomatch h), fun ⟨_, h, _⟩ => (nomatch h)⟩

/-- One transition of a run of this machine. -/
theorem run_succ_next {k : Nat} : Sys2Proof.core.run (k + 1) s = .next t ↔
    ∃ u : State, step s = .next u ∧ Sys2Proof.core.run k u = .next t :=
  run_succ_of Sys2Proof.core k s t

end Sys2Proof.Machine
end

