-- ==== Sys2Proof/Tests/Slice0.lean ====
section
/-!
SUPPORT. The model's own tests: what WellFormed refuses, the decoding of every opcode byte, one step
of every family against the spec's worked examples and vectors (95_test_vectors.md, named at each
test), and for each obligation with hypotheses a state that meets them.
-/

namespace Sys2Proof.Tests

open Sys2Proof.Machine

/-! ### WellFormed -/

theorem test_wellFormed_refuses_documented_byte :
    (Instr.undocumented 0x00).wellFormed = false := by decide

theorem test_wellFormed_refuses_neighbour_of_undocumented :
    (Instr.undocumented 0x09).wellFormed = false ∧ (Instr.undocumented 0xCC).wellFormed = false := by
  decide

theorem test_wellFormed_accepts :
    (Instr.undocumented 0xFD).wellFormed = true ∧ (Instr.mviA 0xFF).wellFormed = true := by decide

/-! ### Decoding: every byte of the opcode map (30_encoding.md R90, R91), bit by bit

A row is the number of bits, the word with its first byte in bits 7:0 (operand bytes 0x34, then 0x12,
above it), and the instruction. -/

/-- Does every word decode to its instruction? -/
def decodes (rows : List (Nat × Nat × Instr)) : Bool :=
  rows.all fun r => decodeTableWord r.1 r.2.1 == some r.2.2

theorem test_decode_00_to_0F : decodes
    [(8, 0b00000000, .nop), (24, 0b000100100011010000000001, .lxiB 0x1234),
     (8, 0b00000010, .staxB), (8, 0b00000011, .inxB), (8, 0b00000100, .inrB),
     (8, 0b00000101, .dcrB), (16, 0b0011010000000110, .mviB 0x34), (8, 0b00000111, .rlc),
     (8, 0b00001000, .undocumented 0x08), (8, 0b00001001, .dadB), (8, 0b00001010, .ldaxB),
     (8, 0b00001011, .dcxB), (8, 0b00001100, .inrC), (8, 0b00001101, .dcrC),
     (16, 0b0011010000001110, .mviC 0x34), (8, 0b00001111, .rrc)] = true := by
  decide

theorem test_decode_10_to_1F : decodes
    [(8, 0b00010000, .undocumented 0x10), (24, 0b000100100011010000010001, .lxiD 0x1234),
     (8, 0b00010010, .staxD), (8, 0b00010011, .inxD), (8, 0b00010100, .inrD),
     (8, 0b00010101, .dcrD), (16, 0b0011010000010110, .mviD 0x34), (8, 0b00010111, .ral),
     (8, 0b00011000, .undocumented 0x18), (8, 0b00011001, .dadD), (8, 0b00011010, .ldaxD),
     (8, 0b00011011, .dcxD), (8, 0b00011100, .inrE), (8, 0b00011101, .dcrE),
     (16, 0b0011010000011110, .mviE 0x34), (8, 0b00011111, .rar)] = true := by
  decide

theorem test_decode_20_to_2F : decodes
    [(8, 0b00100000, .undocumented 0x20), (24, 0b000100100011010000100001, .lxiH 0x1234),
     (24, 0b000100100011010000100010, .shld 0x1234), (8, 0b00100011, .inxH),
     (8, 0b00100100, .inrH), (8, 0b00100101, .dcrH), (16, 0b0011010000100110, .mviH 0x34),
     (8, 0b00100111, .daa), (8, 0b00101000, .undocumented 0x28), (8, 0b00101001, .dadH),
     (24, 0b000100100011010000101010, .lhld 0x1234), (8, 0b00101011, .dcxH),
     (8, 0b00101100, .inrL), (8, 0b00101101, .dcrL), (16, 0b0011010000101110, .mviL 0x34),
     (8, 0b00101111, .cma)] = true := by
  decide

theorem test_decode_30_to_3F : decodes
    [(8, 0b00110000, .undocumented 0x30), (24, 0b000100100011010000110001, .lxiSp 0x1234),
     (24, 0b000100100011010000110010, .sta 0x1234), (8, 0b00110011, .inxSp),
     (8, 0b00110100, .inrM), (8, 0b00110101, .dcrM), (16, 0b0011010000110110, .mviM 0x34),
     (8, 0b00110111, .stc), (8, 0b00111000, .undocumented 0x38), (8, 0b00111001, .dadSp),
     (24, 0b000100100011010000111010, .lda 0x1234), (8, 0b00111011, .dcxSp),
     (8, 0b00111100, .inrA), (8, 0b00111101, .dcrA), (16, 0b0011010000111110, .mviA 0x34),
     (8, 0b00111111, .cmc)] = true := by
  decide

theorem test_decode_40_to_4F : decodes
    [(8, 0b01000000, .movBB), (8, 0b01000001, .movBC), (8, 0b01000010, .movBD),
     (8, 0b01000011, .movBE), (8, 0b01000100, .movBH), (8, 0b01000101, .movBL),
     (8, 0b01000110, .movBM), (8, 0b01000111, .movBA), (8, 0b01001000, .movCB),
     (8, 0b01001001, .movCC), (8, 0b01001010, .movCD), (8, 0b01001011, .movCE),
     (8, 0b01001100, .movCH), (8, 0b01001101, .movCL), (8, 0b01001110, .movCM),
     (8, 0b01001111, .movCA)] = true := by
  decide

theorem test_decode_50_to_5F : decodes
    [(8, 0b01010000, .movDB), (8, 0b01010001, .movDC), (8, 0b01010010, .movDD),
     (8, 0b01010011, .movDE), (8, 0b01010100, .movDH), (8, 0b01010101, .movDL),
     (8, 0b01010110, .movDM), (8, 0b01010111, .movDA), (8, 0b01011000, .movEB),
     (8, 0b01011001, .movEC), (8, 0b01011010, .movED), (8, 0b01011011, .movEE),
     (8, 0b01011100, .movEH), (8, 0b01011101, .movEL), (8, 0b01011110, .movEM),
     (8, 0b01011111, .movEA)] = true := by
  decide

theorem test_decode_60_to_6F : decodes
    [(8, 0b01100000, .movHB), (8, 0b01100001, .movHC), (8, 0b01100010, .movHD),
     (8, 0b01100011, .movHE), (8, 0b01100100, .movHH), (8, 0b01100101, .movHL),
     (8, 0b01100110, .movHM), (8, 0b01100111, .movHA), (8, 0b01101000, .movLB),
     (8, 0b01101001, .movLC), (8, 0b01101010, .movLD), (8, 0b01101011, .movLE),
     (8, 0b01101100, .movLH), (8, 0b01101101, .movLL), (8, 0b01101110, .movLM),
     (8, 0b01101111, .movLA)] = true := by
  decide

theorem test_decode_70_to_7F : decodes
    [(8, 0b01110000, .movMB), (8, 0b01110001, .movMC), (8, 0b01110010, .movMD),
     (8, 0b01110011, .movME), (8, 0b01110100, .movMH), (8, 0b01110101, .movML),
     (8, 0b01110110, .hlt), (8, 0b01110111, .movMA), (8, 0b01111000, .movAB),
     (8, 0b01111001, .movAC), (8, 0b01111010, .movAD), (8, 0b01111011, .movAE),
     (8, 0b01111100, .movAH), (8, 0b01111101, .movAL), (8, 0b01111110, .movAM),
     (8, 0b01111111, .movAA)] = true := by
  decide

theorem test_decode_80_to_8F : decodes
    [(8, 0b10000000, .addB), (8, 0b10000001, .addC), (8, 0b10000010, .addD),
     (8, 0b10000011, .addE), (8, 0b10000100, .addH), (8, 0b10000101, .addL),
     (8, 0b10000110, .addM), (8, 0b10000111, .addA), (8, 0b10001000, .adcB),
     (8, 0b10001001, .adcC), (8, 0b10001010, .adcD), (8, 0b10001011, .adcE),
     (8, 0b10001100, .adcH), (8, 0b10001101, .adcL), (8, 0b10001110, .adcM),
     (8, 0b10001111, .adcA)] = true := by
  decide

theorem test_decode_90_to_9F : decodes
    [(8, 0b10010000, .subB), (8, 0b10010001, .subC), (8, 0b10010010, .subD),
     (8, 0b10010011, .subE), (8, 0b10010100, .subH), (8, 0b10010101, .subL),
     (8, 0b10010110, .subM), (8, 0b10010111, .subA), (8, 0b10011000, .sbbB),
     (8, 0b10011001, .sbbC), (8, 0b10011010, .sbbD), (8, 0b10011011, .sbbE),
     (8, 0b10011100, .sbbH), (8, 0b10011101, .sbbL), (8, 0b10011110, .sbbM),
     (8, 0b10011111, .sbbA)] = true := by
  decide

theorem test_decode_A0_to_AF : decodes
    [(8, 0b10100000, .anaB), (8, 0b10100001, .anaC), (8, 0b10100010, .anaD),
     (8, 0b10100011, .anaE), (8, 0b10100100, .anaH), (8, 0b10100101, .anaL),
     (8, 0b10100110, .anaM), (8, 0b10100111, .anaA), (8, 0b10101000, .xraB),
     (8, 0b10101001, .xraC), (8, 0b10101010, .xraD), (8, 0b10101011, .xraE),
     (8, 0b10101100, .xraH), (8, 0b10101101, .xraL), (8, 0b10101110, .xraM),
     (8, 0b10101111, .xraA)] = true := by
  decide

theorem test_decode_B0_to_BF : decodes
    [(8, 0b10110000, .oraB), (8, 0b10110001, .oraC), (8, 0b10110010, .oraD),
     (8, 0b10110011, .oraE), (8, 0b10110100, .oraH), (8, 0b10110101, .oraL),
     (8, 0b10110110, .oraM), (8, 0b10110111, .oraA), (8, 0b10111000, .cmpB),
     (8, 0b10111001, .cmpC), (8, 0b10111010, .cmpD), (8, 0b10111011, .cmpE),
     (8, 0b10111100, .cmpH), (8, 0b10111101, .cmpL), (8, 0b10111110, .cmpM),
     (8, 0b10111111, .cmpA)] = true := by
  decide

theorem test_decode_C0_to_CF : decodes
    [(8, 0b11000000, .rnz), (8, 0b11000001, .popB),
     (24, 0b000100100011010011000010, .jnz 0x1234),
     (24, 0b000100100011010011000011, .jmp 0x1234),
     (24, 0b000100100011010011000100, .cnz 0x1234), (8, 0b11000101, .pushB),
     (16, 0b0011010011000110, .adi 0x34), (8, 0b11000111, .rst0), (8, 0b11001000, .rz),
     (8, 0b11001001, .ret), (24, 0b000100100011010011001010, .jz 0x1234),
     (8, 0b11001011, .undocumented 0xCB), (24, 0b000100100011010011001100, .cz 0x1234),
     (24, 0b000100100011010011001101, .call 0x1234), (16, 0b0011010011001110, .aci 0x34),
     (8, 0b11001111, .rst1)] = true := by
  decide

theorem test_decode_D0_to_DF : decodes
    [(8, 0b11010000, .rnc), (8, 0b11010001, .popD),
     (24, 0b000100100011010011010010, .jnc 0x1234), (16, 0b0011010011010011, .out 0x34),
     (24, 0b000100100011010011010100, .cnc 0x1234), (8, 0b11010101, .pushD),
     (16, 0b0011010011010110, .sui 0x34), (8, 0b11010111, .rst2), (8, 0b11011000, .rc),
     (8, 0b11011001, .undocumented 0xD9), (24, 0b000100100011010011011010, .jc 0x1234),
     (16, 0b0011010011011011, .inp 0x34), (24, 0b000100100011010011011100, .cc 0x1234),
     (8, 0b11011101, .undocumented 0xDD), (16, 0b0011010011011110, .sbi 0x34),
     (8, 0b11011111, .rst3)] = true := by
  decide

theorem test_decode_E0_to_EF : decodes
    [(8, 0b11100000, .rpo), (8, 0b11100001, .popH),
     (24, 0b000100100011010011100010, .jpo 0x1234), (8, 0b11100011, .xthl),
     (24, 0b000100100011010011100100, .cpo 0x1234), (8, 0b11100101, .pushH),
     (16, 0b0011010011100110, .ani 0x34), (8, 0b11100111, .rst4), (8, 0b11101000, .rpe),
     (8, 0b11101001, .pchl), (24, 0b000100100011010011101010, .jpe 0x1234),
     (8, 0b11101011, .xchg), (24, 0b000100100011010011101100, .cpe 0x1234),
     (8, 0b11101101, .undocumented 0xED), (16, 0b0011010011101110, .xri 0x34),
     (8, 0b11101111, .rst5)] = true := by
  decide

theorem test_decode_F0_to_FF : decodes
    [(8, 0b11110000, .rp), (8, 0b11110001, .popPsw),
     (24, 0b000100100011010011110010, .jp 0x1234), (8, 0b11110011, .di),
     (24, 0b000100100011010011110100, .cp 0x1234), (8, 0b11110101, .pushPsw),
     (16, 0b0011010011110110, .ori 0x34), (8, 0b11110111, .rst6), (8, 0b11111000, .rm),
     (8, 0b11111001, .sphl), (24, 0b000100100011010011111010, .jm 0x1234), (8, 0b11111011, .ei),
     (24, 0b000100100011010011111100, .cm 0x1234), (8, 0b11111101, .undocumented 0xFD),
     (16, 0b0011010011111110, .cpi 0x34), (8, 0b11111111, .rst7)] = true := by
  decide

theorem test_decode_short_words_are_zero_extended :
    decodes [(8, 0b11000011, .jmp 0), (16, 0b0011010011001101, .call 0x0034)] = true := by decide

theorem test_decode_rejects_truncated :
    (match decode [0xC3, 0x34] with | .error e => e == .truncated 0xC3 | .ok _ => false) = true := by
  decide

/-! ### One step

Each test runs one step on a small state; the expected values are those of the vector of
95_test_vectors.md named before it. -/

/-- A state for tests: HL, `sp` and the bytes at them in RAM; the rest as after reset. -/
def demo : State :=
  ((State.reset.setPair .HL 0x2010).withSp 0x2400).withMem
    [(0x2010, 0x5A), (0x2400, 0x03), (0x2401, 0x01)]

/-- The state with one more byte in memory. -/
def withByte (s : State) (p : Nat) (v : Byte) : State := s.withMem (s.mem.write p v)

/-- Flags from bits, S Z AC P CY. -/
def fl (s z ac p cy : Nat) : Flags := { s := s == 1, z := z == 1, ac := ac == 1, p := p == 1, cy := cy == 1 }

/-- Under the write-protect policy `fault`. -/
def protecting (s : State) : State := { s with cfg := { s.cfg with writePolicy := .fault } }

/-- Under an AuxCarry policy. -/
def acPolicy (s : State) (p : LogicAcPolicy) : State := { s with cfg := { s.cfg with logicAc := p } }

/-- One step of `s` with the bytes placed at `pc`. -/
def run1 (s : State) (bytes : List Byte) : Result := step (placeInstruction s bytes)

/-- The step completed, and the state after it is as `p` says. -/
def leaves (r : Result) (p : State → Bool) : Bool :=
  match r with
  | .next t => p t
  | _ => false

/-- The step ended in the fault `f`. -/
def faults (r : Result) (f : Fault) : Bool :=
  match r with
  | .fault g => g == f
  | _ => false

-- V-DATA-1
theorem test_mov_register : leaves (run1 (demo.setReg .D 0x2A) [0x42]) (fun t =>
    t.reg .B == 0x2A && t.reg .D == 0x2A && t.pc == 1 && t.host.report == some 5) = true := by decide

-- V-DATA-1: the address is read before H is written
theorem test_mov_from_memory_into_h : leaves (run1 demo [0x66]) (fun t =>
    t.reg .H == 0x5A && t.reg .L == 0x10) = true := by decide

-- V-DATA-1
theorem test_mov_to_memory : leaves (run1 demo [0x74]) (fun t =>
    t.mem.read 0x2010 == 0x20 && t.pc == 1) = true := by decide

-- V-DATA-1: a store through the mirror, and one into ROM
theorem test_mov_to_mirror : leaves (run1 ((demo.setPair .HL 0x5FFF).setReg .B 0x77) [0x70])
    (fun t => t.mem.read 0x3FFF == 0x77) = true := by decide

theorem test_mov_to_rom_is_dropped : leaves (run1 ((demo.setPair .HL 0x1000).setReg .B 0x77) [0x70])
    (fun t => t.mem.read 0x1000 == 0 && t.pc == 1) = true := by decide

-- V-DATA-1
theorem test_mvi_register_and_memory :
    (leaves (run1 demo [0x3E, 0x99]) (fun t => t.reg .A == 0x99 && t.pc == 2) &&
     leaves (run1 demo [0x36, 0xFF]) (fun t => t.mem.read 0x2010 == 0xFF && t.pc == 2)) = true := by
  decide

theorem test_lxi : (leaves (run1 demo [0x01, 0xEF, 0xBE]) (fun t =>
      t.reg .B == 0xBE && t.reg .C == 0xEF && t.pc == 3) &&
    leaves (run1 demo [0x31, 0x00, 0x24]) (fun t => t.sp == 0x2400)) = true := by decide

theorem test_lda_from_mirror : leaves (run1 (withByte demo 0x2000 0x5A) [0x3A, 0x00, 0x40])
    (fun t => t.reg .A == 0x5A && t.pc == 3 && t.host.report == some 13) = true := by decide

theorem test_sta : leaves (run1 (demo.setReg .A 0x5A) [0x32, 0x00, 0x20])
    (fun t => t.mem.read 0x2000 == 0x5A && t.pc == 3) = true := by decide

-- V-DATA-1: the second byte is read through the mirror
theorem test_lhld_straddles : leaves
    (run1 (withByte (withByte demo 0x3FFF 0x11) 0x2000 0x22) [0x2A, 0xFF, 0x3F])
    (fun t => t.reg .H == 0x22 && t.reg .L == 0x11 && t.host.report == some 16) = true := by decide

-- V-DATA-1: the first byte goes to ROM, the second to RAM
theorem test_shld_straddles : leaves (run1 (demo.setPair .HL 0x1234) [0x22, 0xFF, 0x1F])
    (fun t => t.mem.read 0x1FFF == 0 && t.mem.read 0x2000 == 0x12) = true := by decide

theorem test_shld_out_of_range : faults (run1 demo [0x22, 0xFF, 0x5F])
    (.addressOutOfRange 0x6000) = true := by decide

theorem test_ldax_stax : (leaves (run1 (demo.setPair .DE 0x2010) [0x1A]) (fun t => t.reg .A == 0x5A) &&
    leaves (run1 ((demo.setPair .BC 0x2020).setReg .A 0x66) [0x02])
      (fun t => t.mem.read 0x2020 == 0x66)) = true := by decide

theorem test_xchg_sphl : (leaves (run1 (demo.setPair .DE 0x1234) [0xEB]) (fun t =>
      t.pair .HL == 0x1234 && t.pair .DE == 0x2010) &&
    leaves (run1 demo [0xF9]) (fun t => t.sp == 0x2010)) = true := by decide

theorem test_xthl : leaves (run1 demo [0xE3]) (fun t => t.pair .HL == 0x0103 && t.sp == 0x2400 &&
    t.mem.read 0x2400 == 0x10 && t.mem.read 0x2401 == 0x20 && t.host.report == some 18) = true := by
  decide

-- V-ARITH-1
theorem test_add_wraps : leaves (run1 ((demo.setReg .A 0xFF).setReg .B 0x01) [0x80]) (fun t =>
    t.reg .A == 0 && t.flags == fl 0 1 1 1 1 && t.host.report == some 4) = true := by decide

theorem test_add_to_itself : leaves (run1 (demo.setReg .A 0x88) [0x87]) (fun t =>
    t.reg .A == 0x10 && t.flags == fl 0 0 1 0 1) = true := by decide

theorem test_adi : leaves (run1 (demo.setReg .A 0x14) [0xC6, 0x42]) (fun t =>
    t.reg .A == 0x56 && t.flags == fl 0 0 0 1 0 && t.pc == 2) = true := by decide

theorem test_adc_carry_in : leaves
    (run1 (((demo.setReg .A 0x42).setReg .C 0x3D).withFlags (fl 0 0 0 0 1)) [0x89])
    (fun t => t.reg .A == 0x80 && t.flags == fl 1 0 1 0 0) = true := by decide

theorem test_aci : leaves (run1 ((demo.setReg .A 0x56).withFlags (fl 0 0 0 0 1)) [0xCE, 0xBE])
    (fun t => t.reg .A == 0x15 && t.flags == fl 0 0 1 0 1) = true := by decide

theorem test_sub_borrows : leaves (run1 (demo.setReg .B 0x01) [0x90]) (fun t =>
    t.reg .A == 0xFF && t.flags == fl 1 0 0 1 1) = true := by decide

theorem test_sui : leaves (run1 demo [0xD6, 0xFF]) (fun t =>
    t.reg .A == 0x01 && t.flags == fl 0 0 0 0 1) = true := by decide

theorem test_sbb_borrow_in : leaves
    (run1 (((demo.setReg .A 0x04).setReg .L 0x02).withFlags (fl 0 0 0 0 1)) [0x9D])
    (fun t => t.reg .A == 0x01 && t.flags == fl 0 0 1 0 0) = true := by decide

theorem test_sbi : leaves (run1 ((demo.setReg .A 0x10).withFlags (fl 0 0 0 0 1)) [0xDE, 0x0F])
    (fun t => t.reg .A == 0 && t.flags == fl 0 1 0 1 0) = true := by decide

-- V-ARITH-2
theorem test_add_memory_through_mirror : leaves
    (run1 (withByte ((demo.setPair .HL 0x4000).setReg .A 0x01) 0x2000 0x7F) [0x86])
    (fun t => t.reg .A == 0x80 && t.flags == fl 1 0 1 0 0 && t.host.report == some 7) = true := by
  decide

theorem test_add_memory_out_of_range : faults (run1 (demo.setPair .HL 0x6000) [0x86])
    (.addressOutOfRange 0x6000) = true := by decide

-- V-ARITH-3
theorem test_inr_keeps_carry : leaves
    (run1 ((demo.setReg .C 0xFF).withFlags (fl 0 0 0 0 1)) [0x0C])
    (fun t => t.reg .C == 0 && t.flags == fl 0 1 1 1 1) = true := by decide

theorem test_dcr_aux_carry : leaves (run1 (demo.setReg .B 0x10) [0x05])
    (fun t => t.reg .B == 0x0F && t.flags == fl 0 0 0 1 0) = true := by decide

theorem test_inr_memory : leaves (run1 (withByte demo 0x2010 0x0F) [0x34])
    (fun t => t.mem.read 0x2010 == 0x10 && t.flags == fl 0 0 1 0 0 && t.host.report == some 10) = true := by
  decide

-- V-ARITH-3: the write is dropped, the flags are still those of the result
theorem test_inr_memory_in_rom : leaves
    (run1 (withByte (demo.setPair .HL 0x0100) 0x0100 0xFF) [0x34])
    (fun t => t.mem.read 0x0100 == 0xFF && t.flags == fl 0 1 1 1 0) = true := by decide

theorem test_dcr_memory_wraps : leaves
    (run1 ((withByte demo 0x2010 0).withFlags (fl 0 0 0 0 1)) [0x35])
    (fun t => t.mem.read 0x2010 == 0xFF && t.flags == fl 1 0 0 1 1) = true := by decide

-- V-ARITH-4
theorem test_inx_wraps : (leaves (run1 (demo.setPair .BC 0xFFFF) [0x03]) (fun t =>
      t.pair .BC == 0 && t.flags == fl 0 0 0 0 0) &&
    leaves (run1 (demo.withSp 0xFFFF) [0x33]) (fun t => t.sp == 0)) = true := by decide

theorem test_dcx_wraps : (leaves (run1 (demo.setPair .HL 0) [0x2B]) (fun t => t.pair .HL == 0xFFFF) &&
    leaves (run1 (demo.withSp 0) [0x3B]) (fun t => t.sp == 0xFFFF)) = true := by decide

-- S5
theorem test_dad_wraps : leaves (run1 ((demo.setPair .HL 0xFFF0).withFlags (fl 1 1 1 1 0)) [0x29])
    (fun t => t.pair .HL == 0xFFE0 && t.flags == fl 1 1 1 1 1) = true := by decide

theorem test_dad_sp_clears_carry : leaves
    (run1 ((demo.setPair .HL 0x0010).withFlags (fl 0 0 0 0 1)) [0x39])
    (fun t => t.pair .HL == 0x2410 && t.sp == 0x2400 && t.flags == fl 0 0 0 0 0) = true := by decide

-- V-LOGIC-1
theorem test_ana_aux_carry : leaves
    (run1 (((demo.setReg .A 0xFC).setReg .C 0x0F).withFlags (fl 0 0 0 0 1)) [0xA1])
    (fun t => t.reg .A == 0x0C && t.flags == fl 0 0 1 1 0) = true := by decide

theorem test_ani : leaves (run1 (demo.setReg .A 0x3A) [0xE6, 0x0F])
    (fun t => t.reg .A == 0x0A && t.flags == fl 0 0 1 1 0) = true := by decide

theorem test_ora : leaves
    (run1 (((demo.setReg .A 0x33).setReg .C 0x0F).withFlags (fl 0 0 1 0 1)) [0xB1])
    (fun t => t.reg .A == 0x3F && t.flags == fl 0 0 0 1 0) = true := by decide

theorem test_ori_xri : (leaves (run1 (demo.setReg .A 0xB5) [0xF6, 0x0F]) (fun t =>
      t.reg .A == 0xBF && t.flags == fl 1 0 0 0 0) &&
    leaves (run1 (demo.setReg .A 0x3B) [0xEE, 0x81]) (fun t =>
      t.reg .A == 0xBA && t.flags == fl 1 0 0 0 0)) = true := by decide

theorem test_xra_with_itself : leaves
    (run1 ((demo.setReg .A 0x5C).withFlags (fl 0 0 1 0 1)) [0xAF])
    (fun t => t.reg .A == 0 && t.flags == fl 0 1 0 1 0) = true := by decide

-- V-LOGIC-2
theorem test_logic_ac_policies :
    (leaves (run1 (acPolicy ((demo.setReg .A 0xFC).setReg .C 0x0F) .clear) [0xA1])
      (fun t => t.flags == fl 0 0 0 1 0) &&
     leaves (run1 (acPolicy (((demo.setReg .A 0x33).setReg .C 0x0F).withFlags (fl 0 0 1 0 0)) .unchanged)
      [0xB1]) (fun t => t.flags == fl 0 0 1 1 0)) = true := by decide

-- V-LOGIC-1
theorem test_cmp : leaves (run1 ((demo.setReg .A 0x02).setReg .E 0x05) [0xBB])
    (fun t => t.reg .A == 0x02 && t.flags == fl 1 0 0 0 1) = true := by decide

theorem test_cpi_equal : leaves (run1 (demo.setReg .A 0x40) [0xFE, 0x40])
    (fun t => t.reg .A == 0x40 && t.flags == fl 0 1 1 1 0 && t.pc == 2) = true := by decide

-- V-LOGIC-3
theorem test_rlc_rrc : (leaves (run1 (demo.setReg .A 0xF2) [0x07]) (fun t =>
      t.reg .A == 0xE5 && t.flags == fl 0 0 0 0 1) &&
    leaves (run1 (demo.setReg .A 0x01) [0x0F]) (fun t =>
      t.reg .A == 0x80 && t.flags == fl 0 0 0 0 1)) = true := by decide

theorem test_ral_rar : (leaves (run1 (demo.setReg .A 0xB5) [0x17]) (fun t =>
      t.reg .A == 0x6A && t.flags == fl 0 0 0 0 1) &&
    leaves (run1 ((demo.setReg .A 0x6A).withFlags (fl 0 0 0 0 1)) [0x1F]) (fun t =>
      t.reg .A == 0xB5 && t.flags == fl 0 0 0 0 0)) = true := by decide

theorem test_cma_stc_cmc : (leaves (run1 ((demo.setReg .A 0x51).withFlags (fl 0 0 0 0 1)) [0x2F])
      (fun t => t.reg .A == 0xAE && t.flags == fl 0 0 0 0 1) &&
    leaves (run1 demo [0x37]) (fun t => t.flags == fl 0 0 0 0 1) &&
    leaves (run1 (demo.withFlags (fl 1 1 1 1 1)) [0x3F]) (fun t =>
      t.flags == fl 1 1 1 1 0)) = true := by decide

-- S9
theorem test_daa_both_carries : leaves (run1 (demo.setReg .A 0x9B) [0x27])
    (fun t => t.reg .A == 0x01 && t.flags == fl 0 0 1 0 1) = true := by decide

-- V-LOGIC-4: DAA never clears CY
theorem test_daa_keeps_carry : leaves
    (run1 ((demo.setReg .A 0x10).withFlags (fl 0 0 0 0 1)) [0x27])
    (fun t => t.reg .A == 0x70 && t.flags == fl 0 0 0 0 1) = true := by decide

-- S7
theorem test_push_pair : leaves (run1 ((demo.setPair .BC 0x2477).withSp 0x3000) [0xC5])
    (fun t => t.mem.read 0x2FFF == 0x24 && t.mem.read 0x2FFE == 0x77 && t.sp == 0x2FFE) = true := by
  decide

theorem test_push_faults_after_reset : faults (run1 State.reset [0xC5])
    (.addressOutOfRange 0xFFFF) = true := by decide

-- V-STACK-1
theorem test_push_psw : leaves (run1 ((demo.setReg .A 0x1F).withFlags (fl 0 1 0 1 1)) [0xF5])
    (fun t => t.mem.read 0x23FF == 0x1F && t.mem.read 0x23FE == 0x47 && t.sp == 0x23FE) = true := by
  decide

theorem test_pop_pair : leaves (run1 demo [0xC1])
    (fun t => t.reg .B == 0x01 && t.reg .C == 0x03 && t.sp == 0x2402) = true := by decide

-- V-STACK-1: bits 5 and 3 of the popped byte are ignored
theorem test_pop_psw : leaves (run1 (withByte (withByte demo 0x2400 0x28) 0x2401 0x12) [0xF1])
    (fun t => t.reg .A == 0x12 && t.flags == fl 0 0 0 0 0 && t.sp == 0x2402) = true := by decide

-- V-CTRL-1
theorem test_jumps : (leaves (run1 demo [0xC3, 0xD4, 0x18]) (fun t => t.pc == 0x18D4) &&
    leaves (run1 (demo.withPc 0x0100) [0xC2, 0x00, 0x02]) (fun t => t.pc == 0x0200) &&
    leaves (run1 (demo.withPc 0x0100) [0xFA, 0x00, 0x02]) (fun t => t.pc == 0x0103)) = true := by
  decide

-- V-CTRL-2
theorem test_call : leaves (run1 (demo.withPc 0x0100) [0xCD, 0x34, 0x12])
    (fun t => t.mem.read 0x23FF == 0x01 && t.mem.read 0x23FE == 0x03 && t.sp == 0x23FE &&
      t.pc == 0x1234 && t.host.report == some 17) = true := by decide

-- S4
theorem test_conditional_call :
    (leaves (run1 demo [0xD4, 0x34, 0x12]) (fun t =>
      t.pc == 0x1234 && t.sp == 0x23FE && t.host.report == some 17) &&
     leaves (run1 (demo.withFlags (fl 0 0 0 0 1)) [0xD4, 0x34, 0x12]) (fun t =>
      t.pc == 3 && t.sp == 0x2400 && t.mem.read 0x23FE == 0 && t.host.report == some 11)) = true := by
  decide

-- V-CTRL-2
theorem test_return : leaves (run1 demo [0xC9]) (fun t =>
    t.pc == 0x0103 && t.sp == 0x2402 && t.host.report == some 10) = true := by decide

theorem test_conditional_return :
    (leaves (run1 (demo.withFlags (fl 0 1 0 0 0)) [0xC8]) (fun t =>
      t.pc == 0x0103 && t.host.report == some 11) &&
     leaves (run1 demo [0xC8]) (fun t =>
      t.pc == 1 && t.sp == 0x2400 && t.host.report == some 5)) = true := by decide

theorem test_pchl_rst : (leaves (run1 (demo.setPair .HL 0x413E) [0xE9]) (fun t => t.pc == 0x413E) &&
    leaves (run1 (demo.withPc 0x0150) [0xFF]) (fun t =>
      t.pc == 0x0038 && t.mem.read 0x23FF == 0x01 && t.mem.read 0x23FE == 0x51)) = true := by decide

-- V-IO-1
theorem test_in_without_device : leaves (run1 (demo.setReg .A 0x55) [0xDB, 0x01])
    (fun t => t.reg .A == 0 && t.pc == 2 && t.host.ioEvents == [.read 0x01 0]) = true := by decide

theorem test_out : leaves (run1 (demo.setReg .A 0x3C) [0xD3, 0x04])
    (fun t => t.reg .A == 0x3C && t.pc == 2 && t.host.ioEvents == [.write 0x04 0x3C]) = true := by
  decide

theorem test_ei_di : (leaves (run1 demo [0xFB]) (fun t => t.ie && t.pc == 1) &&
    leaves (run1 (demo.withIe true) [0xF3]) (fun t => !t.ie && t.pc == 1)) = true := by decide

-- V-IO-1: pc stays at the HLT byte
theorem test_hlt_nop : (leaves (run1 (demo.withPc 0x0200) [0x76]) (fun t =>
      t.halted && t.pc == 0x0200 && t.host.report == some 7) &&
    leaves (run1 demo [0x00]) (fun t => t.pc == 1 && t.host.report == some 4)) = true := by decide

theorem test_undocumented : faults (run1 (demo.withPc 0x0120) [0xCB])
    (.unimplementedOpcode 0xCB 0x0120) = true := by decide

/-! ### Memory policy, interrupts, reset -/

-- 95_test_vectors.md 2.1, policy `fault`
theorem test_write_protected : (faults (run1 (protecting demo) [0x32, 0x10, 0x00])
      (.writeProtected 0x0010) &&
    faults (run1 (protecting (demo.withSp 0x1000)) [0xCD, 0x34, 0x12])
      (.writeProtected 0x0FFF)) = true := by decide

-- 95_test_vectors.md 2.1: the operand byte is fetched through the mirror, and past its end
theorem test_fetch_through_mirror : (leaves
      (step (withByte (withByte (demo.withPc 0x3FFF) 0x3FFF 0x3E) 0x2000 0x99))
      (fun t => t.reg .A == 0x99 && t.pc == 0x4001) &&
    faults (step (withByte (demo.withPc 0x5FFF) 0x3FFF 0x3E)) (.addressOutOfRange 0x6000)) = true := by
  decide

/-- A state with IE as given, in which the host requests `r`. -/
def asking (r : HostOp) (ie : Bool) : State :=
  ((demo.withPc 0x1234).withIe ie).withHost { demo.host with requests := [r] }

-- S8
theorem test_interrupt_gating : (leaves (step (asking (.interrupt 2) true)) (fun t =>
      t.mem.read 0x23FF == 0x12 && t.mem.read 0x23FE == 0x34 && t.sp == 0x23FE && t.pc == 0x0010 &&
      !t.ie) &&
    leaves (step (asking (.interrupt 2) false)) (fun t =>
      t.pc == 0x1234 && t.sp == 0x2400 && !t.ie)) = true := by decide

-- 95_test_vectors.md 2.7
theorem test_halted_requests :
    (faults (step ((asking (.interrupt 2) true).withHalted true)) (.interruptWhileHalted 2) &&
     faults (step (demo.withHalted true)) .steppedWhileHalted) = true := by decide

theorem test_reset_request : leaves (step ((asking .reset true).withHalted true)) (fun t =>
    t.pc == 0 && t.sp == 0 && t.reg .H == 0 && !t.ie && !t.halted && t.mem.read 0x2010 == 0x5A) = true := by
  decide

-- S1
theorem test_flag_byte : (flagsToByte (fl 0 1 0 1 1) == 0x47 && flagsToByte (fl 1 1 1 1 1) == 0xD7 &&
    flagsToByte (flagsOfByte 0xFF) == 0xD7 && flagsToByte (flagsOfByte 0x00) == 0x02) = true := by
  decide

-- S6
theorem test_mirror_alias : (match memWrite demo 0x5FFF 0x11 with
    | .ok t => (match memRead t 0x3FFF with | .ok v => v == 0x11 | .error _ => false)
    | .error _ => false) = true := by decide

/-! ### Memory's canonical form -/

theorem test_write_of_zero_unlists :
    (demo.mem.write 0x2010 0 == [(0x2400, 0x03), (0x2401, 0x01)] &&
     (demo.mem.write 0x2200 7).wf && (demo.mem.write 0x2010 9).wf) = true := by decide

theorem test_wf_refuses : (Memory.wf [(5, 0)] || Memory.wf [(5, 1), (5, 2)] ||
    Memory.wf [(6, 1), (5, 2)]) = false := by decide

/-! ### Construction -/

/-- Three bytes of which the last is writable, no mirror. -/
def tiny : Config :=
  { Config.reference with memorySize := 3, writable := { first := 2, last := 2 }, mirror := none }

-- 20_memory.md R64, R66
theorem test_load_rom : (leaves (loadRom tiny [0x3E, 0x99] defaultLaunch) (fun t =>
      t.mem == [(0, 0x3E), (1, 0x99)] && t.pc == 0 && t.cfg == tiny) &&
    faults (loadRom tiny [1, 2, 3, 4] defaultLaunch) (.romTooLarge 4)) = true := by decide

theorem test_config_constraints : (configLegal tiny && configLegal Config.reference &&
    !configLegal { tiny with memorySize := 2 } && !configLegal { tiny with diagnostics := true } &&
    !configLegal { Config.reference with mirror := some { first := 0x3000, last := 0x3001 } } &&
    !configLegal { Config.reference with mirror := some { first := 0x4000, last := 0x6000 } }) = true := by
  decide

/-! ### Witnesses: for each obligation with hypotheses, a state and operands that meet them

Where a statement has several clauses, each clause has one, at a boundary of its range. -/

/-- `demo` with bytes placed at `pc`. -/
def prog (bytes : List Byte) : State := placeInstruction demo bytes

/-- `demo` with one of the host's requests next, interrupts enabled. -/
def requesting (r : HostOp) : State := demo.withIe true |>.withHost { demo.host with requests := [r] }

theorem witness_DecodeInvertsEncode :
    (Instr.undocumented 0x08).wellFormed = true ∧ (Instr.undocumented 0xFD).wellFormed = true ∧
    (Instr.jmp 0xFFFF).wellFormed = true := by decide

theorem witness_EncodeInvertsDecode :
    decode [0xC3, 0x34, 0x12, 0x00] = .ok (.jmp 0x1234, [0x00]) ∧
    decode [0xFD] = .ok (.undocumented 0xFD, []) := ⟨rfl, rfl⟩

theorem witness_StepRunsDecodedInstruction :
    (prog [0x80]).halted = false ∧ (nextRequest (prog [0x80])).1 = .step ∧
    BytesAtPc (prog [0x80]) [0x80] ∧ decode [0x80] = .ok (.addB, []) ∧
    Instr.addB.wellFormed = true :=
  ⟨rfl, rfl, fun k h => match k, h with | 0, _ => rfl, rfl, rfl⟩

theorem not_readable {s : State} {a : Word} {f : Fault} (h : phys s.cfg a = .error f) :
    ¬ Readable s a := fun ⟨_, hp⟩ => by rw [h] at hp; cases hp

theorem witness_FetchFaultsInOrder_opcode :
    (demo.withPc 0x6000).halted = false ∧ (nextRequest (demo.withPc 0x6000)).1 = .step ∧
    ¬ Readable (demo.withPc 0x6000) 0x6000 := ⟨rfl, rfl, not_readable rfl⟩

theorem witness_FetchFaultsInOrder_undocumented :
    (prog [0xFD]).halted = false ∧ (nextRequest (prog [0xFD])).1 = .step ∧
    memRead (prog [0xFD]) (prog [0xFD]).pc = .ok 0xFD ∧
    undocumentedBytes.contains (0xFD : Byte) = true := ⟨rfl, rfl, rfl, rfl⟩

theorem witness_FetchFaultsInOrder_second :
    memRead (withByte (demo.withPc 0x5FFF) 0x3FFF 0x3E) 0x5FFF = .ok 0x3E ∧ 2 ≤ opLength 0x3E ∧
    ¬ Readable (withByte (demo.withPc 0x5FFF) 0x3FFF 0x3E) (0x5FFF + 1) :=
  ⟨rfl, by decide, not_readable rfl⟩

theorem witness_FetchFaultsInOrder_third :
    memRead (withByte (demo.withPc 0x5FFE) 0x3FFE 0xC3) 0x5FFE = .ok 0xC3 ∧ opLength 0xC3 = 3 ∧
    Readable (withByte (demo.withPc 0x5FFE) 0x3FFE 0xC3) (0x5FFE + 1) ∧
    ¬ Readable (withByte (demo.withPc 0x5FFE) 0x3FFE 0xC3) (0x5FFE + 2) :=
  ⟨rfl, rfl, ⟨0x3FFF, rfl⟩, not_readable rfl⟩

theorem witness_UndocumentedOpcodeFaults :
    (Instr.undocumented 0x08).wellFormed = true ∧ (Instr.undocumented 0xFD).wellFormed = true := by
  decide

theorem witness_ResetRequestResets : (nextRequest (requesting .reset)).1 = .reset := rfl

theorem witness_HaltedWrittenOnlyByHltAndReset :
    (∃ t, step (prog [0x76]) = .next t ∧ (nextRequest (prog [0x76])).1 = .step ∧
      fetch (prog [0x76]) = .ok .hlt) ∧
    (∃ t, step (requesting .reset) = .next t ∧ (nextRequest (requesting .reset)).1 = .reset) ∧
    ((∃ t, step (prog [0x00]) = .next t) ∧
      ¬ ((nextRequest (prog [0x00])).1 = .step ∧ fetch (prog [0x00]) = .ok .hlt) ∧
      (nextRequest (prog [0x00])).1 ≠ .reset) ∧
    ((demo.withHalted true).halted = true ∧ (nextRequest (demo.withHalted true)).1 = .step) :=
  ⟨⟨_, rfl, rfl, rfl⟩, ⟨_, rfl, rfl⟩, ⟨⟨_, rfl⟩, fun h => (nomatch h.2), fun h => nomatch h⟩, rfl, rfl⟩

theorem witness_InterruptEnableWritersAndReaders :
    (∃ t, step (prog [0xFB]) = .next t ∧ fetch (prog [0xFB]) = .ok .ei) ∧
    (∃ t, step (prog [0xF3]) = .next t ∧ fetch (prog [0xF3]) = .ok .di) ∧
    (∃ t, step (prog [0x00]) = .next t ∧ fetch (prog [0x00]) = .ok .nop) ∧
    ((∃ t, step (requesting (.interrupt 7)) = .next t) ∧
      (requesting (.interrupt 7)).halted = false ∧ (requesting (.interrupt 7)).ie = true) ∧
    ((∃ t, step (asking (.interrupt 0) false) = .next t) ∧
      ¬ ((asking (.interrupt 0) false).halted = false ∧ (asking (.interrupt 0) false).ie = true)) ∧
    (∃ t, step (requesting .reset) = .next t) :=
  ⟨⟨_, rfl, rfl⟩, ⟨_, rfl, rfl⟩, ⟨_, rfl, rfl⟩, ⟨⟨_, rfl⟩, rfl, rfl⟩,
    ⟨⟨_, rfl⟩, fun h => nomatch h.2⟩, ⟨_, rfl⟩⟩

/-- An address that a store reaches in the writable range of `s`. -/
theorem storable {s : State} {a : Word} {p : Nat} (h : phys s.cfg a = .ok p)
    (hw : AddrRange.contains s.cfg.writable p = true) : Storable s a := ⟨p, h, .inl hw⟩

theorem witness_InterruptEntry :
    (nextRequest (requesting (.interrupt 7))).1 = .interrupt 7 ∧
    (requesting (.interrupt 7)).halted = false ∧ (requesting (.interrupt 7)).ie = true ∧
    Storable (requesting (.interrupt 7)) (0x2400 - 1) ∧
    Storable (requesting (.interrupt 7)) (0x2400 - 2) :=
  ⟨rfl, rfl, rfl, storable (p := 0x23FF) rfl rfl, storable (p := 0x23FE) rfl rfl⟩

theorem witness_InterruptIgnoredWhileDisabled :
    (nextRequest (asking (.interrupt 0) false)).1 = .interrupt 0 ∧
    (asking (.interrupt 0) false).halted = false ∧ (asking (.interrupt 0) false).ie = false :=
  ⟨rfl, rfl, rfl⟩

theorem witness_InterruptWhileHaltedFaults :
    (nextRequest ((requesting (.interrupt 0)).withHalted true)).1 = .interrupt 0 ∧
    ((requesting (.interrupt 0)).withHalted true).halted = true := ⟨rfl, rfl⟩

theorem witness_InterruptThenRetResumes : (∃ u, takeInterrupt demo 7 = .ok u) ∧
    phys demo.cfg (demo.sp - 1) = .ok 0x23FF ∧ phys demo.cfg (demo.sp - 2) = .ok 0x23FE ∧
    0x23FF ≠ 0x23FE ∧ AddrRange.contains demo.cfg.writable 0x23FF = true ∧
    AddrRange.contains demo.cfg.writable 0x23FE = true :=
  ⟨⟨_, rfl⟩, rfl, rfl, by decide, rfl, rfl⟩

theorem witness_StepKeepsInvariant :
    (prog [0x74]).inv = true ∧ ∃ t, step (prog [0x74]) = .next t := ⟨by decide, _, rfl⟩

theorem witness_ConstructionSatisfiesInvariant :
    (∃ t, construct tiny [0x3E, 0x99, 0x00] defaultLaunch = .next t) ∧
    (∃ t, loadRom tiny [0x3E, 0x99] defaultLaunch = .next t) ∧
    configLegal { tiny with memorySize := 2 } = false := ⟨⟨_, rfl⟩, ⟨_, rfl⟩, by decide⟩

theorem witness_RomAndConfigurationNeverChange :
    (∃ t, Sys2Proof.core.run 2 (prog [0x74, 0x00]) = .next t) ∧
    AddrRange.contains (prog [0x74, 0x00]).cfg.writable 0x1FFF = false := ⟨⟨_, rfl⟩, rfl⟩

theorem witness_LoadRomContents_loaded : configLegal Config.reference = true ∧
    (List.replicate 8192 (0x76 : Byte)).length ≤ 8192 ∧
    (List.replicate 8192 (0x76 : Byte)).length ≤ Config.reference.memorySize :=
  ⟨by decide, List.length_replicate.le, List.length_replicate.le.trans (by decide)⟩

theorem witness_LoadRomContents_refused : configLegal Config.reference = true ∧
    8192 < (List.replicate 8193 (0x76 : Byte)).length ∧ configLegal tiny = true ∧
    tiny.memorySize < (List.replicate 4 (0x76 : Byte)).length :=
  ⟨by decide, List.length_replicate.ge, by decide, by decide⟩

theorem witness_MirrorTranslation_inside :
    Config.reference.mirror = some { first := 0x4000, last := 0x5FFF } ∧
    configLegal Config.reference = true ∧
    0x4000 ≤ (0x5FFF : Word).toNat ∧ (0x5FFF : Word).toNat ≤ 0x5FFF ∧
    (0x5FFF : Word).toNat - 0x4000 + Config.reference.writable.first < Config.reference.memorySize := by
  decide

theorem witness_MirrorTranslation_inside_out_of_range :
    ({ Config.reference with memorySize := 0x2000 } : Config).mirror
      = some { first := 0x4000, last := 0x5FFF } ∧
    0x4000 ≤ (0x4000 : Word).toNat ∧ (0x4000 : Word).toNat ≤ 0x5FFF ∧
    ({ Config.reference with memorySize := 0x2000 } : Config).memorySize
      ≤ (0x4000 : Word).toNat - 0x4000 + Config.reference.writable.first := by decide

theorem witness_MirrorTranslation_outside :
    (∀ m, Config.reference.mirror = some m → (0x3FFF : Word).toNat < m.first ∨ m.last < (0x3FFF : Word).toNat) ∧
    (0x3FFF : Word).toNat < Config.reference.memorySize ∧
    (∀ m, Config.reference.mirror = some m → (0x6000 : Word).toNat < m.first ∨ m.last < (0x6000 : Word).toNat) ∧
    Config.reference.memorySize ≤ (0x6000 : Word).toNat := by
  refine ⟨fun m h => ?_, by decide, fun m h => ?_, by decide⟩ <;> cases h <;> decide

theorem witness_MirrorAliasReadsBack :
    demo.cfg = Config.reference ∧ 0 < 0x2000 ∧ 0x1FFF < 0x2000 := ⟨rfl, by decide, by decide⟩

theorem witness_MemoryControllerContract :
    demo.cfg.memorySize ≤ translateAddr demo.cfg 0x6000 ∧
    (phys demo.cfg 0x5FFF = .ok 0x3FFF ∧ AddrRange.contains demo.cfg.writable 0x3FFF = true) ∧
    (phys demo.cfg 0x1FFF = .ok 0x1FFF ∧ AddrRange.contains demo.cfg.writable 0x1FFF = false ∧
      demo.cfg.writePolicy = .drop) ∧
    (phys (protecting demo).cfg 0x1FFF = .ok 0x1FFF ∧
      AddrRange.contains (protecting demo).cfg.writable 0x1FFF = false ∧
      (protecting demo).cfg.writePolicy = .fault) :=
  ⟨by decide, ⟨rfl, rfl⟩, ⟨rfl, rfl, rfl⟩, ⟨rfl, rfl, rfl⟩⟩

theorem witness_ByteLoads : memRead demo (demo.pair .HL) = .ok 0x5A ∧ memRead demo 0x4010 = .ok 0x5A ∧
    memRead (demo.setPair .DE 0x2010) ((demo.setPair .DE 0x2010).pair (pairOfBD .DE)) = .ok 0x5A :=
  ⟨rfl, rfl, rfl⟩

/-- A store that the policy `drop` drops. -/
theorem storable_dropped {s : State} {a : Word} {p : Nat} (h : phys s.cfg a = .ok p)
    (hw : s.cfg.writePolicy = .drop) : Storable s a := ⟨p, h, .inr hw⟩

theorem witness_ByteStores : Storable demo (demo.pair .HL) ∧ Storable demo 0x2000 ∧
    Storable demo 0x5FFF ∧ Storable demo 0x1FFF ∧
    Storable (demo.setPair .BC 0x3FFF) ((demo.setPair .BC 0x3FFF).pair (pairOfBD .BC)) :=
  ⟨storable (p := 0x2010) rfl rfl, storable (p := 0x2000) rfl rfl, storable (p := 0x3FFF) rfl rfl,
    storable_dropped (p := 0x1FFF) rfl rfl, storable (p := 0x3FFF) rfl rfl⟩

theorem witness_HlDirectTransfers :
    (memRead demo 0x3FFF = .ok 0 ∧ memRead demo (0x3FFF + 1) = .ok 0) ∧
    (Storable demo 0x1FFF ∧ Storable demo (0x1FFF + 1)) :=
  ⟨⟨rfl, rfl⟩, storable_dropped (p := 0x1FFF) rfl rfl, storable (p := 0x2000) rfl rfl⟩

theorem witness_XthlExchangesStackTop :
    memRead demo demo.sp = .ok 0x03 ∧ memRead demo (demo.sp + 1) = .ok 0x01 ∧
    Storable demo demo.sp ∧ Storable demo (demo.sp + 1) :=
  ⟨rfl, rfl, storable (p := 0x2400) rfl rfl, storable (p := 0x2401) rfl rfl⟩

theorem witness_DataTransferReadsNoFlags :
    Instr.movBC = Instr.movRR .B .C ∧ Instr.movAM = Instr.movRM .A ∧ Instr.movMH = Instr.movMR .H ∧
    Instr.mviM 0xFF = Instr.mvi .M 0xFF ∧ Instr.lxiSp 0x2400 = Instr.lxi .SP 0x2400 ∧
    Instr.ldaxB = Instr.ldax .BC ∧ Instr.staxD = Instr.stax .DE := by decide

/-- The operands of the 8-bit operations: a register, `M` in the mirror, an immediate. -/
theorem witness_operands : OperandValue demo (.reg .H) 0x20 ∧ OperandValue demo .M 0x5A ∧
    OperandValue (demo.setPair .HL 0x4010) .M 0x5A := ⟨rfl, rfl, rfl⟩

theorem witness_AddResults :
    (∃ o, OperandValue demo o 0x5A ∧ (1 : Word) = 1 ∧ Instr.adcM = Instr.alu (if true then .adc else .add) o) ∧
    ((2 : Word) = 2 ∧ Instr.adi 0xFF = Instr.aluImm (if false then .adc else .add) 0xFF) :=
  ⟨⟨.M, rfl, rfl, rfl⟩, rfl, rfl⟩

theorem witness_SubResults :
    (∃ o, OperandValue demo o 0x5A ∧ (1 : Word) = 1 ∧ Instr.sbbM = Instr.alu (if true then .sbb else .sub) o) ∧
    ((2 : Word) = 2 ∧ Instr.sui 0xFF = Instr.aluImm (if false then .sbb else .sub) 0xFF) :=
  ⟨⟨.M, rfl, rfl, rfl⟩, rfl, rfl⟩

theorem witness_InrResults :
    memRead demo (demo.pair .HL) = .ok 0x5A ∧ Storable demo (demo.pair .HL) :=
  ⟨rfl, storable (p := 0x2010) rfl rfl⟩

theorem witness_DcrResults :
    memRead (demo.setPair .HL 0x1FFF) 0x1FFF = .ok 0 ∧ Storable (demo.setPair .HL 0x1FFF) 0x1FFF :=
  ⟨rfl, storable_dropped (p := 0x1FFF) rfl rfl⟩

theorem witness_DadResults :
    (PairSp.SP = .SP ∧ (0x2400 : Word) = demo.sp) ∧
    (∃ q, PairSp.pair .HL = .pair q ∧ (0x2010 : Word) = demo.pair q) :=
  ⟨⟨rfl, rfl⟩, .HL, rfl, by decide⟩

theorem witness_LogicResults :
    (∃ o, OperandValue demo o 0x5A ∧ (1 : Word) = 1 ∧ Instr.oraM = Instr.alu .ora o) ∧
    ((2 : Word) = 2 ∧ Instr.xri 0x81 = Instr.aluImm .xra 0x81) ∧ Config.reference.logicAc = .i8080 ∧
    (acPolicy demo .clear).cfg.logicAc = .clear ∧
    (acPolicy demo .unchanged).cfg.logicAc = .unchanged :=
  ⟨⟨.M, rfl, rfl, rfl⟩, ⟨rfl, rfl⟩, rfl, rfl, rfl⟩

theorem witness_CompareResults :
    (∃ o, OperandValue demo o 0x5A ∧ (1 : Word) = 1 ∧ Instr.cmpM = Instr.alu .cmp o) ∧
    ((2 : Word) = 2 ∧ Instr.cpi 0x40 = .cpi 0x40) := ⟨⟨.M, rfl, rfl, rfl⟩, rfl, rfl⟩

theorem witness_RotateResults :
    Instr.rlc = .rlc ∧ Instr.rrc = .rrc ∧ Instr.ral = .ral ∧ Instr.rar = .rar := by decide

theorem witness_DaaTwoStep :
    6 = (if ((demo.setReg .A 0x9B).reg .A).toNat % 16 > 9 ∨ (demo.setReg .A 0x9B).flags.ac = true
      then 6 else 0) ∧
    0xA1 = ((demo.setReg .A 0x9B).reg .A).toNat + 6 ∧
    0x101 = 0xA1 + (if 0xA1 / 16 > 9 ∨ (demo.setReg .A 0x9B).flags.cy = true then 0x60 else 0) := by
  decide

/-- The stack at the bottom of RAM: the high byte is stored, the low byte goes to ROM. -/
theorem witness_PushPairs : Storable (demo.withSp 0x2001) (0x2001 - 1) ∧
    Storable (demo.withSp 0x2001) (0x2001 - 2) :=
  ⟨storable (p := 0x2000) rfl rfl, storable_dropped (p := 0x1FFF) rfl rfl⟩

theorem witness_PopPairs :
    memRead (demo.withSp 0x5FFE) 0x5FFE = .ok 0 ∧ memRead (demo.withSp 0x5FFE) (0x5FFE + 1) = .ok 0 :=
  ⟨rfl, rfl⟩

theorem witness_PswPushAndPop :
    (Storable demo (demo.sp - 1) ∧ Storable demo (demo.sp - 2)) ∧
    (memRead demo demo.sp = .ok 0x03 ∧ memRead demo (demo.sp + 1) = .ok 0x01) :=
  ⟨⟨storable (p := 0x23FF) rfl rfl, storable (p := 0x23FE) rfl rfl⟩, rfl, rfl⟩

theorem witness_Jumps : condTrue .NZ demo.flags ∧ ¬ condTrue .M demo.flags :=
  ⟨rfl, fun h => nomatch h⟩

theorem witness_Calls : condTrue .NC demo.flags ∧ ¬ condTrue .C demo.flags ∧
    Storable demo (demo.sp - 1) ∧ Storable demo (demo.sp - 2) :=
  ⟨rfl, (fun h => nomatch h), storable (p := 0x23FF) rfl rfl, storable (p := 0x23FE) rfl rfl⟩

theorem witness_Returns : condTrue .PO demo.flags ∧ ¬ condTrue .PE demo.flags ∧
    memRead demo demo.sp = .ok 0x03 ∧ memRead demo (demo.sp + 1) = .ok 0x01 :=
  ⟨rfl, (fun h => nomatch h), rfl, rfl⟩

theorem witness_Restarts : Storable (demo.withSp 0x4002) (0x4002 - 1) ∧
    Storable (demo.withSp 0x4002) (0x4002 - 2) :=
  ⟨storable (p := 0x2001) rfl rfl, storable (p := 0x2000) rfl rfl⟩

theorem witness_InputAndOutput : (0x01 : Byte) ∉ demo.cfg.inPorts ∧
    (0x02 : Byte) ∈ ({ demo.cfg with inPorts := [0x02] } : Config).inPorts := by decide

theorem witness_IoFamilyTouchesNoFlags :
    (∃ p8, Instr.inp 0xFF = .inp p8 ∨ Instr.inp 0xFF = .out p8) ∧ Instr.hlt = .hlt :=
  ⟨⟨0xFF, .inl rfl⟩, rfl⟩

theorem witness_DataReadFaults_one_byte :
    ¬ Readable (demo.setPair .HL 0x6000) ((demo.setPair .HL 0x6000).pair .HL) ∧
    ¬ Readable demo 0xFFFF ∧
    ¬ Readable (demo.setPair .DE 0x6000) ((demo.setPair .DE 0x6000).pair (pairOfBD .DE)) :=
  ⟨not_readable rfl, not_readable rfl, not_readable rfl⟩

theorem witness_DataReadFaults_two_bytes :
    ¬ Readable demo 0x6000 ∧ (Readable demo 0x5FFF ∧ ¬ Readable demo (0x5FFF + 1)) ∧
    (0x5FFF = (demo.withSp 0x5FFF).sp ∧ Instr.popPsw = Instr.pop .PSW ∧
      Instr.rnz = Instr.rcc .NZ ∧ condTrue .NZ (demo.withSp 0x5FFF).flags) :=
  ⟨not_readable rfl, ⟨⟨0x3FFF, rfl⟩, not_readable rfl⟩, rfl, rfl, rfl, rfl⟩

theorem witness_DataWriteFaults_one_byte :
    StoreFaults (demo.setPair .HL 0x6000) 0x6000 (.addressOutOfRange 0x6000) ∧
    (StoreFaults (protecting (demo.setPair .HL 0x1FFF)) 0x1FFF (.writeProtected 0x1FFF) ∧
      Readable (protecting (demo.setPair .HL 0x1FFF)) 0x1FFF) :=
  ⟨.inl rfl, .inr ⟨⟨0x1FFF, rfl, rfl⟩, rfl, rfl⟩, 0x1FFF, rfl⟩

theorem witness_DataWriteFaults_two_bytes :
    StoreFaults (protecting demo) 0x1FFF (.writeProtected 0x1FFF) ∧
    (Storable demo 0x5FFF ∧ StoreFaults demo (0x5FFF + 1) (.addressOutOfRange 0x6000)) ∧
    (Readable (protecting (demo.withSp 0x1FFF)) 0x1FFF ∧
      Readable (protecting (demo.withSp 0x1FFF)) (0x1FFF + 1)) :=
  ⟨.inr ⟨⟨0x1FFF, rfl, rfl⟩, rfl, rfl⟩, ⟨storable (p := 0x3FFF) rfl rfl, .inl rfl⟩,
    ⟨0x1FFF, rfl⟩, ⟨0x2000, rfl⟩⟩

theorem witness_DataWriteFaults_push :
    StoreFaults (demo.withSp 0) (0 - 1) (.addressOutOfRange 0xFFFF) ∧
    (Storable (protecting (demo.withSp 0x2001)) (0x2001 - 1) ∧
      StoreFaults (protecting (demo.withSp 0x2001)) (0x2001 - 2) (.writeProtected 0x1FFF)) ∧
    (Instr.cnz 5 = Instr.ccc .NZ 5 ∧ condTrue .NZ (demo.withSp 0).flags) :=
  ⟨.inl rfl, ⟨storable (p := 0x2000) rfl rfl, .inr ⟨⟨0x1FFF, rfl, rfl⟩, rfl, rfl⟩⟩, rfl, rfl⟩

/-- A state with one entry in its cycle table. -/
def recycled (e : CycleEntry) (s : State) : State := { s with cfg := { s.cfg with cycles := [e] } }

theorem witness_CycleReport_standard :
    (∀ e ∈ demo.cfg.cycles, e.opcode ≠ opcodeOf .nop) ∧
    (∃ t, step (prog [0x00]) = .next t ∧ fetch (prog [0x00]) = .ok .nop) ∧
    (∃ t, step (prog [0xD4, 0x34, 0x12]) = .next t ∧
      fetch (prog [0xD4, 0x34, 0x12]) = .ok (Instr.ccc .NC 0x1234) ∧
      condTrue .NC (prog [0xD4, 0x34, 0x12]).flags) ∧
    (∃ t, step (prog [0xC8]) = .next t ∧ fetch (prog [0xC8]) = .ok (Instr.rcc .Z) ∧
      ¬ condTrue .Z (prog [0xC8]).flags) :=
  ⟨by decide, ⟨_, rfl, rfl⟩, ⟨_, rfl, rfl, rfl⟩, ⟨_, rfl, rfl, fun h => nomatch h⟩⟩

-- a table whose one entry is of another opcode: the standard count; of this opcode: its own
theorem witness_CycleReport_other_entry :
    (∀ e ∈ (recycled { opcode := 0xC9, base := 12, alt := 6 } (prog [0xC8])).cfg.cycles,
      e.opcode ≠ opcodeOf (Instr.rcc .Z)) ∧
    leaves (step (recycled { opcode := 0xC9, base := 12, alt := 6 } (prog [0xC8])))
      (fun t => t.host.report == some 5) = true := by decide

theorem witness_CycleReport_entry :
    (recycled { opcode := 0xC8, base := 12, alt := 6 } (prog [0xC8])).cfg.cycles =
      [] ++ { opcode := 0xC8, base := 12, alt := 6 } :: [] ∧ 0xC8 = opcodeOf (Instr.rcc .Z) ∧
    leaves (step (recycled { opcode := 0xC8, base := 12, alt := 6 } (prog [0xC8])))
      (fun t => t.host.report == some 6) = true := by decide

theorem witness_RegisterFileIdentifiers :
    (Pair.HL, Reg.H, Reg.L) ∈ [(Pair.BC, Reg.B, Reg.C), (.DE, .D, .E), (.HL, .H, .L)] := by decide

end Sys2Proof.Tests
end

section
/-!
PROOFS. The family of 10_state.md: what writes and what reads IE and HALTED (R33, R34), and parity
(R30).

One fact carries both mode bits: an instruction commutes with a change of IE and HALTED, save for
the bits that EI, DI and HLT write (`exec_mapModes`). That no instruction reads a mode bit is this
fact for the change to a constant; that an instruction leaves the bit is the same fact for the
constant that the bit already has.
-/

namespace Sys2Proof.Machine

/-! ### Results under a change of the next state -/

@[simp] theorem mapNext_next (g : State → State) (t : State) :
    mapNext g (.next t) = .next (g t) := rfl

@[simp] theorem mapNext_attempt {α : Type} (g : State → State) (r : Except Fault α)
    (k : α → Result) : mapNext g (attempt r k) = attempt r fun v => mapNext g (k v) := by
  cases r <;> rfl

@[simp] theorem attempt_map {α β : Type} (g : α → β) (r : Except Fault α) (k : β → Result) :
    attempt (r.map g) k = attempt r fun v => k (g v) := by
  cases r <;> rfl

/-! ### A change of the mode bits: what it leaves, and the updates it commutes with -/

/-- The state with IE and HALTED changed, and nothing else. -/
def State.mapModes (fi fh : Bool → Bool) (s : State) : State :=
  { s with ie := fi s.ie, halted := fh s.halted }

section Modes

variable (fi fh : Bool → Bool) (s : State)

@[simp] theorem flags_mapModes : (s.mapModes fi fh).flags = s.flags := rfl
@[simp] theorem pc_mapModes : (s.mapModes fi fh).pc = s.pc := rfl
@[simp] theorem sp_mapModes : (s.mapModes fi fh).sp = s.sp := rfl
@[simp] theorem mem_mapModes : (s.mapModes fi fh).mem = s.mem := rfl
@[simp] theorem cfg_mapModes : (s.mapModes fi fh).cfg = s.cfg := rfl
@[simp] theorem host_mapModes : (s.mapModes fi fh).host = s.host := rfl
@[simp] theorem reg_mapModes (r : Reg) : (s.mapModes fi fh).reg r = s.reg r := rfl
@[simp] theorem pair_mapModes (p : Pair) : (s.mapModes fi fh).pair p = s.pair p := rfl
@[simp] theorem memRead_mapModes (a : Word) : memRead (s.mapModes fi fh) a = memRead s a := rfl
@[simp] theorem readWord_mapModes (a : Word) : readWord (s.mapModes fi fh) a = readWord s a := rfl
@[simp] theorem ioRead_mapModes (p8 : Byte) : ioRead (s.mapModes fi fh) p8 = ioRead s p8 := rfl

@[simp] theorem pairSp_mapModes (p : PairSp) : (s.mapModes fi fh).pairSp p = s.pairSp p := by
  cases p <;> rfl

@[simp] theorem pairPsw_mapModes (p : PairPsw) : (s.mapModes fi fh).pairPsw p = s.pairPsw p := by
  cases p <;> rfl

@[simp] theorem readOperand_mapModes (o : Operand) :
    readOperand (s.mapModes fi fh) o = readOperand s o := by
  cases o <;> rfl

@[simp] theorem setReg_mapModes (r : Reg) (v : Byte) :
    (s.mapModes fi fh).setReg r v = (s.setReg r v).mapModes fi fh := rfl
@[simp] theorem setPair_mapModes (p : Pair) (v : Word) :
    (s.mapModes fi fh).setPair p v = (s.setPair p v).mapModes fi fh := rfl
@[simp] theorem withFlags_mapModes (f : Flags) :
    (s.mapModes fi fh).withFlags f = (s.withFlags f).mapModes fi fh := rfl
@[simp] theorem withPc_mapModes (v : Word) :
    (s.mapModes fi fh).withPc v = (s.withPc v).mapModes fi fh := rfl
@[simp] theorem withSp_mapModes (v : Word) :
    (s.mapModes fi fh).withSp v = (s.withSp v).mapModes fi fh := rfl
@[simp] theorem withMem_mapModes (m : Memory) :
    (s.mapModes fi fh).withMem m = (s.withMem m).mapModes fi fh := rfl
@[simp] theorem withHost_mapModes (h : HostSide) :
    (s.mapModes fi fh).withHost h = (s.withHost h).mapModes fi fh := rfl
@[simp] theorem advance_mapModes (n : Word) :
    (s.mapModes fi fh).advance n = (s.advance n).mapModes fi fh := rfl

@[simp] theorem setPairSp_mapModes (p : PairSp) (v : Word) :
    (s.mapModes fi fh).setPairSp p v = (s.setPairSp p v).mapModes fi fh := by
  cases p <;> rfl

@[simp] theorem setPairPsw_mapModes (p : PairPsw) (v : Word) :
    (s.mapModes fi fh).setPairPsw p v = (s.setPairPsw p v).mapModes fi fh := by
  cases p <;> rfl

@[simp] theorem aluEffect_mapModes (op : AluOp) (v : Byte) :
    aluEffect op v (s.mapModes fi fh) = (aluEffect op v s).mapModes fi fh := by
  cases op <;> rfl

/-! ### The shared operations commute with it -/

@[simp] theorem memWrite_mapModes (a : Word) (v : Byte) :
    memWrite (s.mapModes fi fh) a v = (memWrite s a v).map (State.mapModes fi fh) := by
  simp only [memWrite, cfg_mapModes, mem_mapModes, withMem_mapModes]
  cases phys s.cfg a with
  | error f => rfl
  | ok p =>
    by_cases hw : AddrRange.contains s.cfg.writable p = true
    · simp [hw, Except.map]
    · cases hp : s.cfg.writePolicy <;> simp [hw, Except.map]

@[simp] theorem writeWord_mapModes (a v : Word) :
    writeWord (s.mapModes fi fh) a v = (writeWord s a v).map (State.mapModes fi fh) := by
  simp only [writeWord, memWrite_mapModes]
  cases memWrite s a (loByte v) with
  | error f => rfl
  | ok t => exact memWrite_mapModes fi fh t _ _

@[simp] theorem writeOperand_mapModes (o : Operand) (v : Byte) :
    writeOperand (s.mapModes fi fh) o v = (writeOperand s o v).map (State.mapModes fi fh) := by
  cases o with
  | reg r => rfl
  | M => exact memWrite_mapModes fi fh s _ v

@[simp] theorem push16_mapModes (v : Word) :
    push16 (s.mapModes fi fh) v = (push16 s v).map (State.mapModes fi fh) := by
  simp only [push16, memWrite_mapModes, sp_mapModes]
  cases memWrite s (s.sp - 1) (hiByte v) with
  | error f => rfl
  | ok t =>
    simp only [Except.map, memWrite_mapModes]
    cases memWrite t (s.sp - 2) (loByte v) <;> rfl

@[simp] theorem pop16_mapModes :
    pop16 (s.mapModes fi fh) = (pop16 s).map fun r => (r.1, r.2.mapModes fi fh) := by
  simp only [pop16, readWord_mapModes, sp_mapModes]
  cases readWord s s.sp <;> rfl

@[simp] theorem callTo_mapModes (ret target : Word) :
    callTo (s.mapModes fi fh) ret target = (callTo s ret target).map (State.mapModes fi fh) := by
  simp only [callTo, push16_mapModes]
  cases push16 s ret <;> rfl

@[simp] theorem returnFrom_mapModes :
    returnFrom (s.mapModes fi fh) = (returnFrom s).map (State.mapModes fi fh) := by
  simp only [returnFrom, pop16_mapModes]
  cases pop16 s <;> rfl

@[simp] theorem exchangeStackTop_mapModes :
    exchangeStackTop (s.mapModes fi fh) = (exchangeStackTop s).map (State.mapModes fi fh) := by
  simp only [exchangeStackTop, readWord_mapModes, writeWord_mapModes, sp_mapModes, pair_mapModes]
  cases readWord s s.sp with
  | error f => rfl
  | ok v => cases writeWord s s.sp (s.pair .HL) <;> rfl

@[simp] theorem loadReg_mapModes (d : Reg) (a len : Word) :
    loadReg d a len (s.mapModes fi fh) = mapNext (State.mapModes fi fh) (loadReg d a len s) := by
  simp [loadReg]

@[simp] theorem storeByte_mapModes (a : Word) (v : Byte) (len : Word) :
    storeByte a v len (s.mapModes fi fh) =
      mapNext (State.mapModes fi fh) (storeByte a v len s) := by
  simp [storeByte]

@[simp] theorem callSub_mapModes (a16 : Word) :
    callSub a16 (s.mapModes fi fh) = mapNext (State.mapModes fi fh) (callSub a16 s) := by
  simp [callSub]

@[simp] theorem returnSub_mapModes :
    returnSub (s.mapModes fi fh) = mapNext (State.mapModes fi fh) (returnSub s) := by
  simp [returnSub]

/-! ### Every instruction commutes with it -/

/-- An instruction reads neither IE nor HALTED, and leaves both, save that EI and DI write IE
and HLT writes HALTED (R33, R34): it commutes with every change of the two that keeps what it
writes. -/
theorem exec_mapModes (i : Instr) (hei : i = .ei → fi true = true)
    (hdi : i = .di → fi false = false) (hhlt : i = .hlt → fh true = true) :
    exec i (s.mapModes fi fh) = mapNext (State.mapModes fi fh) (exec i s) := by
  revert hei hdi hhlt
  refine exec_cases (Q := fun i f => (i = .ei → fi true = true) → (i = .di → fi false = false) →
      (i = .hlt → fh true = true) → f (s.mapModes fi fh) = mapNext (State.mapModes fi fh) (f s))
    ?undocumented ?movRR ?movRM ?movMR ?mviR ?mviM
    ?lxi ?lda ?sta ?lhld ?shld ?ldax ?stax ?xchg ?sphl ?xthl ?alu ?aluImm ?inr ?dcr ?inx ?dcx ?dad
    ?rlc ?rrc ?ral ?rar ?cma ?stc ?cmc ?daa ?push ?pop ?jmp ?jcc ?pchl ?call ?ccc ?ret ?rcc ?rst
    ?inp ?out ?ei ?di ?hlt ?nop i
  case ei =>
    intro hei _ _
    simp only [execEi, mapNext, State.mapModes, State.withIe, State.advance, State.withPc, hei]
  case di =>
    intro _ hdi _
    simp only [execDi, mapNext, State.mapModes, State.withIe, State.advance, State.withPc, hdi]
  case hlt =>
    intro _ _ hhlt
    simp only [execHlt, mapNext, State.mapModes, State.withHalted, hhlt]
  case jcc => intro c _ _ _ _; cases h : condHolds c s.flags <;> simp [jumpIf, h]
  case ccc => intro c _ _ _ _; cases h : condHolds c s.flags <;> simp [callIf, h]
  case rcc => intro c _ _ _; cases h : condHolds c s.flags <;> simp [returnIf, h]
  case lda | sta | lhld | shld | xthl =>
    intros; simp [execLda, execSta, execLhld, execShld, execXthl]
  case movRM | movMR | mviM | ldax | stax | call | ret => intros; simp
  case lxi | inx | dcx | dad => intros; simp [loadPairImm, incPair, decPair, addToHl, dadSum]
  case alu | aluImm => intros; simp [withOperand, withImmediate]
  case inr | dcr => intros; simp [incOperand, decOperand]
  case push | pop | rst => intros; simp [pushPair, popPair, restart]
  -- the other meanings neither access memory nor branch: the two sides are one record by definition
  all_goals
    intros
    rfl

end Modes

/-! ### What an instruction does with IE and HALTED -/

/-- No instruction but EI and DI depends on IE (R33). -/
theorem exec_withIe {i : Instr} (hei : i ≠ .ei) (hdi : i ≠ .di) (s : State) (b : Bool) :
    exec i (s.withIe b) = mapNext (fun t => t.withIe b) (exec i s) :=
  exec_mapModes (fun _ => b) id s i (absurd · hei) (absurd · hdi) (fun _ => rfl)

/-- No instruction but HLT depends on HALTED (R34). -/
theorem exec_withHalted {i : Instr} (hhlt : i ≠ .hlt) (s : State) (b : Bool) :
    exec i (s.withHalted b) = mapNext (fun t => t.withHalted b) (exec i s) :=
  exec_mapModes id (fun _ => b) s i (fun _ => rfl) (fun _ => rfl) (absurd · hhlt)

variable {i : Instr} {s t : State}

theorem exec_ie (hei : i ≠ .ei) (hdi : i ≠ .di) (h : exec i s = .next t) : t.ie = s.ie := by
  have hs : exec i s = mapNext (fun t => t.withIe s.ie) (exec i s) := exec_withIe hei hdi s s.ie
  rw [h, mapNext_next, Host.Outcome.next.injEq] at hs
  simpa using congrArg State.ie hs

theorem exec_halted (hhlt : i ≠ .hlt) (h : exec i s = .next t) : t.halted = s.halted := by
  have hs : exec i s = mapNext (fun t => t.withHalted s.halted) (exec i s) :=
    exec_withHalted hhlt s s.halted
  rw [h, mapNext_next, Host.Outcome.next.injEq] at hs
  simpa using congrArg State.halted hs

theorem exec_ei_ie (h : exec .ei s = .next t) : t.ie = true := by cases h; rfl

theorem exec_di_ie (h : exec .di s = .next t) : t.ie = false := by cases h; rfl

theorem exec_hlt_halted (h : exec .hlt s = .next t) : t.halted = true := by cases h; rfl

/-! ### What a transition does with IE and HALTED -/

theorem takeInterrupt_ie {n : Fin 8} (h : takeInterrupt s n = .ok t) : t.ie = false := by
  obtain ⟨m, rfl, -, -⟩ := takeInterrupt_ok h
  rfl

theorem takeInterrupt_halted {n : Fin 8} (h : takeInterrupt s n = .ok t) :
    t.halted = s.halted := by
  obtain ⟨m, rfl, -, -⟩ := takeInterrupt_ok h
  rfl

/-- HALTED after a transition: 1 after HLT, 0 after Reset, else as before (R34). -/
theorem step_halted (h : step s = .next t) :
    t.halted = true ∧ (nextRequest s).1 = .step ∧ fetch s = .ok .hlt ∨
    t.halted = false ∧ (nextRequest s).1 = .reset ∨
    t.halted = s.halted ∧ (nextRequest s).1 ≠ .reset ∧
      ¬ ((nextRequest s).1 = .step ∧ fetch s = .ok .hlt) := by
  rcases step_cases h with
    ⟨hr, -, i, u, hf, hu, rfl⟩ | ⟨n, hr, -, ⟨-, rfl⟩ | ⟨-, u, hu, rfl⟩⟩ | ⟨hr, rfl⟩
  · by_cases hi : i = .hlt
    · subst hi
      exact .inl ⟨by simpa using exec_hlt_halted hu, hr, hf⟩
    · exact .inr (.inr ⟨by simpa using exec_halted hi hu, by simp [hr], by simp [hf, hi]⟩)
  · exact .inr (.inr ⟨by simp, by simp [hr], by simp [hr]⟩)
  · exact .inr (.inr ⟨by simpa using takeInterrupt_halted hu, by simp [hr], by simp [hr]⟩)
  · exact .inr (.inl ⟨rfl, hr⟩)

theorem step_of_reset (h : (nextRequest s).1 = .reset) :
    step s = .next (resetOperation (nextRequest s).2) := by
  rw [step, h]; rfl

theorem step_of_halted (hh : s.halted = true) (h : (nextRequest s).1 = .step) :
    step s = .fault .steppedWhileHalted := by
  simp [step, h, perform, instructionStep, hh]

/-- A completed `Step()` leaves the IE of the instruction that it executed. -/
theorem step_ie_of_step (h : step s = .next t) (hr : (nextRequest s).1 = .step)
    (hf : fetch s = .ok i) : ∃ u, exec i (nextRequest s).2 = .next u ∧ t.ie = u.ie := by
  rcases step_cases h with ⟨-, -, j, u, hf', hu, rfl⟩ | ⟨n, hr', -⟩ | ⟨hr', -⟩
  · cases hf.symm.trans hf'
    exact ⟨u, hu, rfl⟩
  · cases hr.symm.trans hr'
  · cases hr.symm.trans hr'

/-- IE after a completed interrupt request: 0 when it was accepted, as before when it was ignored
(R33, R247). -/
theorem step_ie_of_interrupt (h : step s = .next t) {n : Fin 8}
    (hr : (nextRequest s).1 = .interrupt n) :
    s.halted = false ∧ (s.ie = false ∧ t.ie = s.ie ∨ s.ie = true ∧ t.ie = false) := by
  rcases step_cases h with ⟨hr', -⟩ | ⟨n, -, hh, ⟨hi, rfl⟩ | ⟨hi, u, hu, rfl⟩⟩ | ⟨hr', -⟩
  · cases hr.symm.trans hr'
  · exact ⟨hh, .inl ⟨hi, by simp⟩⟩
  · exact ⟨hh, .inr ⟨hi, by simpa using takeInterrupt_ie hu⟩⟩
  · cases hr.symm.trans hr'

/-! ### Parity -/

/-- The number of elements that meet a test is even exactly when the tests add up to 0 modulo 2. -/
theorem length_filter_even_iff {α : Type} (p : α → Bool) (l : List α) :
    (l.filter p).length % 2 = 0 ↔ (l.foldr (fun x acc => acc ^^ p x) false) = false := by
  induction l with
  | nil => simp
  | cons x xs ih =>
    cases hp : p x
    · simpa [hp] using ih
    · simp [hp, ← Bool.not_eq_true, ← ih]
      omega

theorem parity_iff (v : Byte) : parity v = true ↔ onesCount v % 2 = 0 := by
  rw [onesCount, length_filter_even_iff]
  simp [parity, List.range_succ]

end Sys2Proof.Machine

namespace Sys2Proof.Proofs

open Sys2Proof.Machine

/-- Settles O10: `step_halted` says what each operation leaves in HALTED. -/
theorem haltedWrittenOnlyByHltAndReset : Obligations.HaltedWrittenOnlyByHltAndReset := by
  unfold Obligations.HaltedWrittenOnlyByHltAndReset
  intro s
  refine ⟨fun t h => ?_, ⟨_, rfl, rfl⟩, fun hr => ⟨_, step_of_reset hr, rfl⟩, step_of_halted⟩
  rcases step_halted h with ⟨ht, hr, hf⟩ | ⟨ht, hr⟩ | ⟨ht, hr, hf⟩
  · exact ⟨fun _ _ => ht, by simp [hr], fun hn => absurd ⟨hr, hf⟩ hn⟩
  · exact ⟨by simp [hr], fun _ => ht, fun _ hn => absurd hr hn⟩
  · exact ⟨fun h1 h2 => absurd ⟨h1, h2⟩ hf, fun h1 => absurd h1 hr, fun _ _ => ht⟩

/-- Settles O11: an instruction but EI and DI commutes with a change of IE (`exec_withIe`), so it
neither reads it nor writes it (`exec_ie`). -/
theorem interruptEnableWritersAndReaders : Obligations.InterruptEnableWritersAndReaders := by
  unfold Obligations.InterruptEnableWritersAndReaders
  refine ⟨fun s t h => ⟨fun hr hf => ?ei, fun hr hf => ?di, fun i hr hf hei hdi => ?other,
    fun n hr => ?interrupt, fun hr => ?reset⟩,
    fun i s b hei hdi => exec_withIe hei hdi s b, fun s b => ⟨rfl, rfl⟩⟩
  case ei =>
    obtain ⟨u, hu, ht⟩ := step_ie_of_step h hr hf
    exact ht.trans (exec_ei_ie hu)
  case di =>
    obtain ⟨u, hu, ht⟩ := step_ie_of_step h hr hf
    exact ht.trans (exec_di_ie hu)
  case other =>
    obtain ⟨u, hu, ht⟩ := step_ie_of_step h hr hf
    simpa using ht.trans (exec_ie hei hdi hu)
  case interrupt =>
    obtain ⟨hh, ⟨hi, ht⟩ | ⟨hi, ht⟩⟩ := step_ie_of_interrupt h hr
    · exact ⟨by simp [hi], fun _ => ht⟩
    · exact ⟨fun _ => ht, fun hn => absurd ⟨hh, hi⟩ hn⟩
  case reset =>
    rw [step_of_reset hr] at h
    cases h
    rfl

/-- Settles O25: the exclusive or of the bits is the parity of their count. -/
theorem parityIsEvenOnes : Obligations.ParityIsEvenOnes := by
  unfold Obligations.ParityIsEvenOnes
  exact ⟨parity_iff, by decide, by decide, by decide, by decide⟩

end Sys2Proof.Proofs
end

section
/-!
PROOFS. The family of 20_memory.md: the mirror of the reference configuration (R65).

Two addresses with one physical address name one byte, so a write to either reads back at the other
(`memRead_of_memWrite_alias`); a RAM address and its mirror are such a pair
(`phys_reference_ram`, `phys_reference_mirror`).
-/

namespace Sys2Proof.Machine

theorem AddrRange.contains_iff (r : AddrRange) (p : Nat) :
    AddrRange.contains r p = true ↔ r.first ≤ p ∧ p ≤ r.last := by
  simp [AddrRange.contains]

/-! ### Translation and the range check, by where the address lies -/

/-- An address in the mirror range is moved to the writable range (R52). -/
theorem translateAddr_of_mirrored {c : Config} {m : AddrRange} {a : Word} (hm : c.mirror = some m)
    (ha : AddrRange.contains m a.toNat = true) :
    translateAddr c a = a.toNat - m.first + c.writable.first := by
  simp [translateAddr, hm, ha]

/-- An address outside the mirror range is its own translation (R52). -/
theorem translateAddr_of_unmirrored {c : Config} {a : Word}
    (ha : ∀ m, c.mirror = some m → AddrRange.contains m a.toNat = false) :
    translateAddr c a = a.toNat := by
  cases hm : c.mirror with
  | none => simp [translateAddr, hm]
  | some m => simp [translateAddr, hm, ha m hm]

theorem phys_of_translateAddr {c : Config} {a : Word} {p : Nat} (h : translateAddr c a = p)
    (hp : p < c.memorySize) : phys c a = .ok p := by
  simp [phys, h, hp]

/-- RAM lies outside the mirror range: its addresses are physical (R52, R65). -/
theorem phys_reference_ram {k : Nat} (hk : k < 0x2000) :
    phys Config.reference (BitVec.ofNat 16 (0x2000 + k)) = .ok (0x2000 + k) := by
  have ha : (BitVec.ofNat 16 (0x2000 + k)).toNat = 0x2000 + k :=
    (BitVec.toNat_ofNat ..).trans (Nat.mod_eq_of_lt (by omega))
  have ht : translateAddr Config.reference (BitVec.ofNat 16 (0x2000 + k)) = 0x2000 + k := by
    rw [translateAddr_of_unmirrored, ha]
    rintro m ⟨⟩
    rw [← Bool.not_eq_true, AddrRange.contains_iff, ha]
    simp only
    omega
  exact phys_of_translateAddr ht (show 0x2000 + k < 0x4000 by omega)

/-- The mirror of a RAM address has the RAM address as its physical address (R52, R65). -/
theorem phys_reference_mirror {k : Nat} (hk : k < 0x2000) :
    phys Config.reference (BitVec.ofNat 16 (0x4000 + k)) = .ok (0x2000 + k) := by
  have ha : (BitVec.ofNat 16 (0x4000 + k)).toNat = 0x4000 + k :=
    (BitVec.toNat_ofNat ..).trans (Nat.mod_eq_of_lt (by omega))
  have ht : translateAddr Config.reference (BitVec.ofNat 16 (0x4000 + k)) = 0x2000 + k := by
    rw [translateAddr_of_mirrored rfl, ha]
    · simp only [Config.reference]
      omega
    · rw [AddrRange.contains_iff, ha]
      simp only
      omega
  exact phys_of_translateAddr ht (show 0x2000 + k < 0x4000 by omega)

/-! ### A write read back at any address of the same byte -/

/-- A write inside the writable range stores the byte (R54). -/
theorem memWrite_of_writable {s : State} {a : Word} {p : Nat} (h : phys s.cfg a = .ok p)
    (hw : AddrRange.contains s.cfg.writable p = true) (v : Byte) :
    memWrite s a v = .ok (s.withMem (s.mem.write p v)) := by
  simp [memWrite, h, hw]

/-- A byte written to a writable address is read at every address with the same physical
address (R53, R54). -/
theorem memRead_of_memWrite_alias {s : State} {a b : Word} {p : Nat} (ha : phys s.cfg a = .ok p)
    (hb : phys s.cfg b = .ok p) (hw : AddrRange.contains s.cfg.writable p = true) (v : Byte) :
    ∃ t, memWrite s a v = .ok t ∧ memRead t b = .ok v :=
  ⟨_, memWrite_of_writable ha hw v, by
    rw [memRead_of_phys (s := s.withMem (s.mem.write p v)) hb, mem_withMem,
      Memory.read_write_same]⟩

end Sys2Proof.Machine

namespace Sys2Proof.Proofs

open Sys2Proof.Machine

/-- Settles O22: a RAM address and its mirror have one physical address, inside the writable
range. -/
theorem mirrorAliasReadsBack : Obligations.MirrorAliasReadsBack := by
  unfold Obligations.MirrorAliasReadsBack
  intro s v k hc hk
  have hram : phys s.cfg (BitVec.ofNat 16 (0x2000 + k)) = .ok (0x2000 + k) :=
    hc ▸ phys_reference_ram hk
  have hmirror : phys s.cfg (BitVec.ofNat 16 (0x4000 + k)) = .ok (0x2000 + k) :=
    hc ▸ phys_reference_mirror hk
  have hw : AddrRange.contains s.cfg.writable (0x2000 + k) = true := by
    rw [hc, AddrRange.contains_iff]
    exact (show 0x2000 ≤ 0x2000 + k ∧ 0x2000 + k ≤ 0x3FFF by omega)
  exact ⟨hram, hmirror, memRead_of_memWrite_alias hram hmirror hw v,
    memRead_of_memWrite_alias hmirror hram hw v⟩

end Sys2Proof.Proofs
end

section
/-!
PROOFS. The family of 40_data_transfer.md: its instructions neither read nor write the flags, IE or
HALTED (R100).

Replacing the flags commutes with the updates and the memory operations that the family uses, as a
change of IE and HALTED does (`State.mapModes`). So each shared meaning of the family commutes with
both, shape by shape.
-/

namespace Sys2Proof.Machine

/-! ### The equations of the family's instructions that have one form -/

theorem exec_mviM (d8 : Byte) (s : State) :
    exec (.mviM d8) s = storeByte (s.pair .HL) d8 2 s := rfl

theorem exec_lda (a16 : Word) (s : State) : exec (.lda a16) s = loadReg .A a16 3 s := rfl

theorem exec_sta (a16 : Word) (s : State) : exec (.sta a16) s = storeByte a16 (s.reg .A) 3 s := rfl

theorem exec_lhld (a16 : Word) (s : State) :
    exec (.lhld a16) s = attempt (readWord s a16) fun v => .next ((s.setPair .HL v).advance 3) := rfl

theorem exec_shld (a16 : Word) (s : State) :
    exec (.shld a16) s = attempt (writeWord s a16 (s.pair .HL)) fun t => .next (t.advance 3) := rfl

theorem exec_xthl (s : State) :
    exec .xthl s = attempt (exchangeStackTop s) fun t => .next (t.advance 1) := rfl

@[simp] theorem mapNext_mapNext (g g' : State → State) (r : Result) :
    mapNext g (mapNext g' r) = mapNext (fun t => g (g' t)) r := by
  cases r <;> rfl

/-! ### Other flags: the updates and the shared operations commute with them -/

section OtherFlags

variable (s : State) (f : Flags)

@[simp] theorem memRead_withFlags (a : Word) : memRead (s.withFlags f) a = memRead s a := rfl
@[simp] theorem readWord_withFlags (a : Word) : readWord (s.withFlags f) a = readWord s a := rfl

@[simp] theorem setReg_withFlags (r : Reg) (v : Byte) :
    (s.withFlags f).setReg r v = (s.setReg r v).withFlags f := rfl
@[simp] theorem setPair_withFlags (p : Pair) (v : Word) :
    (s.withFlags f).setPair p v = (s.setPair p v).withFlags f := rfl
@[simp] theorem withMem_withFlags (m : Memory) :
    (s.withFlags f).withMem m = (s.withMem m).withFlags f := rfl
@[simp] theorem advance_withFlags (n : Word) :
    (s.withFlags f).advance n = (s.advance n).withFlags f := rfl

@[simp] theorem setPairSp_withFlags (p : PairSp) (v : Word) :
    (s.withFlags f).setPairSp p v = (s.setPairSp p v).withFlags f := by
  cases p <;> rfl

@[simp] theorem memWrite_withFlags (a : Word) (v : Byte) :
    memWrite (s.withFlags f) a v = (memWrite s a v).map (State.withFlags · f) := by
  simp only [memWrite, cfg_withFlags, mem_withFlags, withMem_withFlags]
  cases phys s.cfg a with
  | error e => rfl
  | ok p =>
    by_cases hw : AddrRange.contains s.cfg.writable p = true
    · simp [hw, Except.map]
    · cases hp : s.cfg.writePolicy <;> simp [hw, Except.map]

@[simp] theorem writeWord_withFlags (a v : Word) :
    writeWord (s.withFlags f) a v = (writeWord s a v).map (State.withFlags · f) := by
  simp only [writeWord, memWrite_withFlags]
  cases memWrite s a (loByte v) with
  | error e => rfl
  | ok t => exact memWrite_withFlags t f _ _

@[simp] theorem exchangeStackTop_withFlags :
    exchangeStackTop (s.withFlags f) = (exchangeStackTop s).map (State.withFlags · f) := by
  simp only [exchangeStackTop, readWord_withFlags, writeWord_withFlags, sp_withFlags,
    pair_withFlags]
  cases readWord s s.sp with
  | error e => rfl
  | ok v => cases writeWord s s.sp (s.pair .HL) <;> rfl

@[simp] theorem loadReg_withFlags (d : Reg) (a len : Word) :
    loadReg d a len (s.withFlags f) = mapNext (State.withFlags · f) (loadReg d a len s) := by
  simp [loadReg]

@[simp] theorem storeByte_withFlags (a : Word) (v : Byte) (len : Word) :
    storeByte a v len (s.withFlags f) = mapNext (State.withFlags · f) (storeByte a v len s) := by
  simp [storeByte]

end OtherFlags

/-! ### The family -/

/-- The instructions of 40_data_transfer.md, by shape. -/
inductive DataTransfer : Instr → Prop where
  | movRR (d r : Reg) : DataTransfer (Instr.movRR d r)
  | movRM (d : Reg) : DataTransfer (Instr.movRM d)
  | movMR (r : Reg) : DataTransfer (Instr.movMR r)
  | mviR (d : Reg) (d8 : Byte) : DataTransfer (Instr.mvi (.reg d) d8)
  | mviM (d8 : Byte) : DataTransfer (.mviM d8)
  | lxi (p : PairSp) (d16 : Word) : DataTransfer (Instr.lxi p d16)
  | lda (a16 : Word) : DataTransfer (.lda a16)
  | sta (a16 : Word) : DataTransfer (.sta a16)
  | lhld (a16 : Word) : DataTransfer (.lhld a16)
  | shld (a16 : Word) : DataTransfer (.shld a16)
  | ldax (p : PairBD) : DataTransfer (Instr.ldax p)
  | stax (p : PairBD) : DataTransfer (Instr.stax p)
  | xchg : DataTransfer .xchg
  | sphl : DataTransfer .sphl
  | xthl : DataTransfer .xthl

theorem dataTransfer_mvi (o : Operand) (d8 : Byte) : DataTransfer (Instr.mvi o d8) := by
  cases o with
  | reg d => exact .mviR d d8
  | M => exact .mviM d8

/-- A data-transfer instruction commutes with a replacement of the flags and a change of IE and
HALTED: it neither reads nor writes them (R100). -/
theorem DataTransfer.exec_withFlags_mapModes {i : Instr} (hi : DataTransfer i) (s : State)
    (f : Flags) (fi fh : Bool → Bool) :
    exec i ((s.withFlags f).mapModes fi fh)
      = mapNext (fun t => (t.withFlags f).mapModes fi fh) (exec i s) := by
  cases hi with
  | movRR d r => simp [exec_movRR, moveReg]
  | movRM d => simp [exec_movRM]
  | movMR r => simp [exec_movMR]
  | mviR d d8 => simp [exec_mviR, moveImm]
  | mviM d8 => simp [exec_mviM]
  | lxi p d16 => simp [exec_lxi, loadPairImm]
  | lda a16 => simp [exec_lda]
  | sta a16 => simp [exec_sta]
  | lhld a16 => simp [exec_lhld]
  | shld a16 => simp [exec_shld]
  | ldax p => simp [exec_ldax]
  | stax p => simp [exec_stax]
  | xchg => rfl
  | sphl => rfl
  | xthl => simp [exec_xthl]

end Sys2Proof.Machine

namespace Sys2Proof.Proofs

open Sys2Proof.Machine

/-- Settles O35: every instruction named is a `DataTransfer`, and those commute with other flags,
IE and HALTED (`DataTransfer.exec_withFlags_mapModes`, for a change to constants). -/
theorem dataTransferReadsNoFlags : Obligations.DataTransferReadsNoFlags := by
  unfold Obligations.DataTransferReadsNoFlags
  intro s f b h i hi
  have hd : DataTransfer i := by
    rcases hi with ⟨d, r, rfl⟩ | ⟨d, rfl⟩ | ⟨r, rfl⟩ | ⟨o, d8, rfl⟩ | ⟨p, d16, rfl⟩ |
      ⟨a16, rfl | rfl | rfl | rfl⟩ | ⟨p, rfl | rfl⟩ | rfl | rfl | rfl
    exacts [.movRR d r, .movRM d, .movMR r, dataTransfer_mvi o d8, .lxi p d16, .lda a16, .sta a16,
      .lhld a16, .shld a16, .ldax p, .stax p, .xchg, .sphl, .xthl]
  exact hd.exec_withFlags_mapModes s f (fun _ => b) (fun _ => h)

end Sys2Proof.Proofs
end

section
/-!
PROOFS. The family of 41_arithmetic.md: the 8-bit adder (R130), ADD and ADC (R132 to R135), INR
(R140, R141), INX and DCX (R144, R145), DAD (R146).

The adder and DAD add in one bit more than their result has, so that their sums are exact
(`toNat_add8Sum`, `toNat_dadSum`): the result is the sum modulo, its top bit the carry. What an
instruction leaves unchanged is one frame lemma an update (`quietBut_setReg`, `quietBut_setPair`,
...), which the flags and `pc` do not touch.
-/

namespace Sys2Proof.Machine

/-! ### Completion -/

@[simp] theorem completes_next (t : State) (P : State → Prop) : Completes (.next t) P ↔ P t :=
  ⟨fun ⟨_, h, hP⟩ => by cases h; exact hP, fun hP => ⟨t, rfl, hP⟩⟩

/-- An ALU operation on the value `v`, of an operand or immediate, completes as its effect (R88). -/
theorem exec_alu_of_value {s : State} {v : Byte} {op : AluOp} {i : Instr} {len : Word}
    (h : (∃ o, OperandValue s o v ∧ len = 1 ∧ i = Instr.alu op o) ∨
      (len = 2 ∧ i = Instr.aluImm op v)) :
    exec i s = .next ((aluEffect op v s).advance len) := by
  rcases h with ⟨o, hv, rfl, rfl⟩ | ⟨rfl, rfl⟩
  · rw [exec_alu, withOperand, readOperand_of_value hv, attempt_ok]
  · rw [exec_aluImm, withImmediate]

/-! ### Frames -/

section Frames

variable (s t : State) (ds : List Reg)

@[simp] theorem quietBut_withFlags (f : Flags) :
    quietBut ds s (t.withFlags f) ↔ quietBut ds s t := Iff.rfl

@[simp] theorem quietBut_advance (n : Word) :
    quietBut ds s (t.advance n) ↔ quietBut ds s t := Iff.rfl

@[simp] theorem quietBut_setReg (r : Reg) (v : Byte) : quietBut [r] s (s.setReg r v) :=
  ⟨fun _ hr => reg_setReg_ne s (by simpa using hr) v, rfl, fun _ => rfl, rfl, rfl, rfl, rfl⟩

@[simp] theorem quietBut_setPair (p : Pair) (v : Word) :
    quietBut [Pair.high p, Pair.low p] s (s.setPair p v) := by
  refine ⟨fun r hr => ?_, rfl, fun _ => rfl, rfl, rfl, rfl, rfl⟩
  obtain ⟨hh, hl⟩ : r ≠ Pair.high p ∧ r ≠ Pair.low p := by simpa using hr
  exact reg_setPair_ne s hh hl v

/-- A write to `sp` alone: with `sp` put back, nothing but `pc` differs. -/
@[simp] theorem quietBut_withSp (v n : Word) :
    quietBut [] s (((s.withSp v).advance n).withSp s.sp) :=
  ⟨fun _ _ => rfl, rfl, fun _ => rfl, rfl, rfl, rfl, rfl⟩

/-- A plain store that also sets the flags: with the flags put back, nothing but memory and `pc`
differs. -/
theorem storeFrame_withMem_withFlags (m : Memory) (f : Flags) (n : Word) :
    storeFrame s ((((s.withMem m).withFlags f).advance n).withFlags s.flags) :=
  ⟨fun _ => rfl, rfl, rfl, rfl, rfl, rfl, rfl⟩

end Frames

/-! ### S, Z and P from a result -/

/-- `set_SZP(v)` sets S, Z and P as the statements say (R31). -/
theorem szpOf_setSZP (v : Byte) (f : Flags) : szpOf (setSZP v f) v :=
  ⟨rfl, beq_iff_eq, parity_iff v⟩

@[simp] theorem szpOf_resultFlags (v : Byte) (cy ac : Bool) : szpOf (resultFlags v cy ac) v :=
  szpOf_setSZP v ⟨false, false, ac, false, cy⟩

@[simp] theorem szpOf_incFlags (v : Byte) (f : Flags) : szpOf (incFlags v f) v :=
  szpOf_setSZP v f

/-! ### The low nibble -/

theorem toNat_lowNibble (v : Byte) : (v.extractLsb' 0 4).toNat = v.toNat % 16 := by
  simp [BitVec.extractLsb'_toNat]

theorem lowNibble_eq_zero_iff (v : Byte) : v.extractLsb' 0 4 = 0 ↔ v.toNat % 16 = 0 := by
  rw [← toNat_lowNibble, BitVec.toNat_eq]
  rfl

/-! ### The 8-bit adder (R130) -/

/-- The sum the adder forms, in 9 bits. -/
def add8Sum (a b : Byte) (cin : Bool) : BitVec 9 :=
  a.setWidth 9 + b.setWidth 9 + (BitVec.ofBool cin).setWidth 9

/-- The 9-bit sum is exact. -/
theorem toNat_add8Sum (a b : Byte) (cin : Bool) :
    (add8Sum a b cin).toNat = a.toNat + b.toNat + cin.toNat := by
  have ha : a.toNat < 256 := a.isLt
  have hb : b.toNat < 256 := b.isLt
  have hc : cin.toNat < 2 := cin.toNat_lt
  simp only [add8Sum, BitVec.toNat_add, BitVec.toNat_setWidth, BitVec.toNat_ofBool]
  omega

theorem toNat_add8_res (a b : Byte) (cin : Bool) :
    (add8 a b cin).res.toNat = (a.toNat + b.toNat + cin.toNat) % 256 := by
  rw [← toNat_add8Sum]
  exact BitVec.toNat_setWidth 8 (add8Sum a b cin)

theorem add8_cy_iff (a b : Byte) (cin : Bool) :
    (add8 a b cin).cy = true ↔ a.toNat + b.toNat + cin.toNat > 255 := by
  have hcy : (add8 a b cin).cy = decide (256 ≤ (add8Sum a b cin).toNat) :=
    BitVec.getLsbD_last (add8Sum a b cin)
  rw [hcy, toNat_add8Sum, decide_eq_true_eq]
  omega

theorem add8_ac_iff (a b : Byte) (cin : Bool) :
    (add8 a b cin).ac = true ↔ a.toNat % 16 + b.toNat % 16 + cin.toNat > 15 := by
  simp only [add8, toNat_lowNibble, decide_eq_true_eq]

/-! ### Into A, with all flags (R132) -/

section AluResult

variable (o : AluOut) (s : State)

@[simp] theorem reg_A_setAluResult : (setAluResult o s).reg .A = o.res := rfl

@[simp] theorem flags_setAluResult :
    (setAluResult o s).flags = resultFlags o.res o.cy o.ac := rfl

@[simp] theorem pc_setAluResult : (setAluResult o s).pc = s.pc := rfl

@[simp] theorem quietBut_setAluResult : quietBut [.A] s (setAluResult o s) :=
  quietBut_setReg s .A o.res

end AluResult

/-- ADD and ADC are one addition; the carry-in of ADD is 0 (R132, R134). -/
theorem aluEffect_add (withCy : Bool) (v : Byte) (s : State) :
    aluEffect (if withCy then .adc else .add) v s
      = setAluResult (add8 (s.reg .A) v (withCy && s.flags.cy)) s := by
  cases withCy <;> rfl

/-! ### INR (R140, R141) -/

@[simp] theorem incFlags_cy (v : Byte) (f : Flags) : (incFlags v f).cy = f.cy := rfl

@[simp] theorem incFlags_ac_iff (v : Byte) (f : Flags) :
    (incFlags v f).ac = true ↔ v.toNat % 16 = 0 :=
  beq_iff_eq.trans (lowNibble_eq_zero_iff v)

theorem exec_inrM (s : State) : exec .inrM s = incOperand .M s := exec_inr .M s

theorem incOperand_reg (r : Reg) (s : State) :
    incOperand (.reg r) s = .next (((s.setReg r (s.reg r + 1)).withFlags
      (incFlags (s.reg r + 1) s.flags)).advance 1) := rfl

/-- INR M where both accesses succeed: memory as the write leaves it, then the flags (R141). -/
theorem incOperand_mem {s : State} {v : Byte} (hv : memRead s (s.pair .HL) = .ok v)
    (hs : Storable s (s.pair .HL)) :
    ∃ m : Memory, (∀ q, m.read q = storedByte s [(s.pair .HL, v + 1)] q) ∧
      incOperand .M s
        = .next (((s.withMem m).withFlags (incFlags (v + 1) s.flags)).advance 1) := by
  obtain ⟨t, ht⟩ := memWrite_of_storable hs (v + 1)
  obtain ⟨m, rfl, -, hm⟩ := memWrite_ok ht
  exact ⟨m, hm, by
    simp only [incOperand, readOperand, writeOperand, hv, ht, attempt_ok, flags_withMem]⟩

/-! ### The pair field of INX, DCX, DAD (R86) -/

@[simp] theorem pairSp_pair (s : State) (p : Pair) : s.pairSp (.pair p) = s.pair p := rfl

@[simp] theorem pairSp_SP (s : State) : s.pairSp .SP = s.sp := rfl

@[simp] theorem setPairSp_pair (s : State) (p : Pair) (v : Word) :
    s.setPairSp (.pair p) v = s.setPair p v := rfl

@[simp] theorem setPairSp_SP (s : State) (v : Word) : s.setPairSp .SP v = s.withSp v := rfl

/-! ### DAD (R146) -/

/-- The 17-bit sum is exact. -/
theorem toNat_dadSum (p : PairSp) (s : State) :
    (dadSum p s).toNat = (s.pair .HL).toNat + (s.pairSp p).toNat := by
  have hhl : (s.pair .HL).toNat < 65536 := (s.pair .HL).isLt
  have hp : (s.pairSp p).toNat < 65536 := (s.pairSp p).isLt
  simp only [dadSum, BitVec.toNat_add, BitVec.toNat_setWidth]
  omega

theorem dadSum_carry_iff (p : PairSp) (s : State) :
    (dadSum p s).getLsbD 16 = true ↔ (s.pair .HL).toNat + (s.pairSp p).toNat > 65535 := by
  have hcy : (dadSum p s).getLsbD 16 = decide (65536 ≤ (dadSum p s).toNat) :=
    BitVec.getLsbD_last (dadSum p s)
  rw [hcy, toNat_dadSum, decide_eq_true_eq]
  omega

end Sys2Proof.Machine

namespace Sys2Proof.Proofs

open Sys2Proof.Machine

/-- Settles O26: the 9-bit sum is exact (`toNat_add8Sum`). -/
theorem adderIsNineBitSum : Obligations.AdderIsNineBitSum := by
  unfold Obligations.AdderIsNineBitSum
  exact fun a b cin => ⟨toNat_add8_res a b cin, add8_cy_iff a b cin, add8_ac_iff a b cin⟩

/-- Settles O36: every form puts the adder's result into A (`exec_alu_of_value`,
`aluEffect_add`). -/
theorem addResults : Obligations.AddResults := by
  unfold Obligations.AddResults
  intro s v withCy i len hi
  rw [exec_alu_of_value hi, aluEffect_add, completes_next]
  exact ⟨toNat_add8_res _ _ _, add8_cy_iff _ _ _, add8_ac_iff _ _ _, by simp, by simp, by simp⟩

/-- Settles O38: the operand is written, then the flags are those of what was written. -/
theorem inrResults : Obligations.InrResults := by
  unfold Obligations.InrResults
  refine fun s => ⟨fun r => ?register, fun v hv hs => ?memory⟩
  case register =>
    rw [exec_inr, incOperand_reg, completes_next]
    simp [BitVec.toNat_add]
  case memory =>
    obtain ⟨m, hm, hinc⟩ := incOperand_mem hv hs
    rw [exec_inrM, hinc, completes_next]
    exact ⟨hm, by simp, by simp, by simp, storeFrame_withMem_withFlags s m _ 1, by simp⟩

/-- Settles O40: the pair or `sp` is written back plus or minus 1. -/
theorem inxAndDcx : Obligations.InxAndDcx := by
  unfold Obligations.InxAndDcx
  refine fun s => ⟨fun p => ?inxPair, ?inxSp, fun p => ?dcxPair, ?dcxSp⟩
  case inxPair => simp [exec_inx, incPair, BitVec.toNat_add]
  case inxSp => simp [exec_inx, incPair, BitVec.toNat_add]
  case dcxPair => simp [exec_dcx, decPair, BitVec.toNat_sub, Nat.add_comm]
  case dcxSp => simp [exec_dcx, decPair, BitVec.toNat_sub, Nat.add_comm]

/-- Settles O41: the 17-bit sum is exact (`toNat_dadSum`), and CY is its top bit. -/
theorem dadResults : Obligations.DadResults := by
  unfold Obligations.DadResults
  intro s p src hsrc
  obtain rfl : src = s.pairSp p := by
    rcases hsrc with ⟨rfl, rfl⟩ | ⟨q, rfl, rfl⟩ <;> rfl
  rw [exec_dad, addToHl, completes_next]
  refine ⟨?sum, dadSum_carry_iff p s, rfl, rfl, rfl, rfl, ?frame, rfl⟩
  case sum => simp [toNat_dadSum]
  case frame => exact quietBut_setPair s .HL _

end Sys2Proof.Proofs
end

section
/-!
PROOFS. The family of 42_logical.md: CMA, STC and CMC (R173 to R175).

Each answers a next state by one update, of A or of the flags alone, and advances `pc` by 1; so what
it leaves unchanged is the frame of that update (`quietBut_setReg`, `quietBut_withFlags`).
-/

namespace Sys2Proof.Machine

theorem exec_cma (s : State) :
    exec .cma s = .next ((s.setReg .A (~~~(s.reg .A))).advance 1) := rfl

theorem exec_stc (s : State) :
    exec .stc s = .next ((s.withFlags { s.flags with cy := true }).advance 1) := rfl

theorem exec_cmc (s : State) :
    exec .cmc s = .next ((s.withFlags { s.flags with cy := !s.flags.cy }).advance 1) := rfl

/-- A state differs from itself in nothing. -/
@[simp] theorem quietBut_refl (ds : List Reg) (s : State) : quietBut ds s s :=
  ⟨fun _ _ => rfl, rfl, fun _ => rfl, rfl, rfl, rfl, rfl⟩

end Sys2Proof.Machine

namespace Sys2Proof.Proofs

open Sys2Proof.Machine

/-- Settles O45: CMA writes A alone, bit by bit the complement; STC and CMC write the flags alone,
with no field but CY replaced. -/
theorem complementAndCarry : Obligations.ComplementAndCarry := by
  unfold Obligations.ComplementAndCarry
  refine fun s => ⟨?cma, ?stc, ?cmc⟩
  case cma =>
    rw [exec_cma, completes_next]
    exact ⟨fun k hk => by simp [hk], rfl, by simp, by simp⟩
  case stc => simp [exec_stc]
  case cmc => simp [exec_cmc]

end Sys2Proof.Proofs
end

section
/-!
PROOFS. The family of 43_stack_control.md: PUSH and POP of a register pair (R192, R194).

PUSH and POP are `push16` and `pop16` of the pair's 16-bit value (`pushPair_of_storable`,
`popPair_of_bytes`, for PSW as well); the statements name the two bytes of that value, which are the
two registers (`hiByte_pair`, `loByte_pair`, `reg_setPair_high`, `reg_setPair_low`).
-/

namespace Sys2Proof.Machine

/-! ### A pair as a `PairPsw` -/

@[simp] theorem pairPsw_pair (s : State) (p : Pair) : s.pairPsw (.pair p) = s.pair p := rfl

@[simp] theorem setPairPsw_pair (s : State) (p : Pair) (v : Word) :
    s.setPairPsw (.pair p) v = s.setPair p v := rfl

/-! ### The outcome of PUSH and of POP -/

section StackPair

variable {s : State}

/-- PUSH where both writes succeed: memory as they leave it, the high byte first (R192, R193). -/
theorem pushPair_of_storable (h : Storable s (s.sp - 1)) (h' : Storable s (s.sp - 2))
    (p : PairPsw) :
    ∃ m : Memory, (∀ q, m.read q = storedByte s
        [(s.sp - 2, loByte (s.pairPsw p)), (s.sp - 1, hiByte (s.pairPsw p))] q) ∧
      pushPair p s = .next (((s.withMem m).withSp (s.sp - 2)).advance 1) := by
  obtain ⟨t, ht⟩ := push16_of_storable h h' (s.pairPsw p)
  obtain ⟨m, rfl, -, hm⟩ := push16_ok ht
  exact ⟨m, hm, by rw [pushPair, ht, attempt_ok]⟩

/-- POP where both reads succeed: the byte at `sp` is the low one (R194, R195). -/
theorem popPair_of_bytes {lo hi : Byte} (hl : memRead s s.sp = .ok lo)
    (hh : memRead s (s.sp + 1) = .ok hi) (p : PairPsw) :
    popPair p s
      = .next (((s.withSp (s.sp + 2)).setPairPsw p (joinBytes hi lo)).advance 1) := by
  rw [popPair, pop16_of_bytes hl hh, attempt_ok]

end StackPair

/-! ### Frames -/

theorem stackFrame_withMem_withSp (s : State) (m : Memory) (v n : Word) :
    stackFrame s (((s.withMem m).withSp v).advance n) :=
  ⟨fun _ => rfl, rfl, rfl, rfl, rfl, rfl⟩

/-- A pop writes `sp` and then is quiet: nothing but `sp` and what the rest writes differs. -/
theorem popFrame_of_quietBut_withSp {s t : State} {ds : List Reg} {v : Word}
    (h : quietBut ds (s.withSp v) t) : popFrame ds s t := by
  obtain ⟨hreg, -, hmem, hie, hhalted, hcfg, hhost⟩ := h
  exact ⟨hreg, hmem, hie, hhalted, hcfg, hhost⟩

end Sys2Proof.Machine

namespace Sys2Proof.Proofs

open Sys2Proof.Machine

/-- Settles O47: the two bytes of the pair that `pushPair_of_storable` stores are its registers. -/
theorem pushPairs : Obligations.PushPairs := by
  unfold Obligations.PushPairs
  intro s p h h'
  obtain ⟨m, hm, hpush⟩ := pushPair_of_storable h h' (.pair p)
  rw [pairPsw_pair, loByte_pair, hiByte_pair] at hm
  rw [exec_push, hpush, completes_next]
  exact ⟨hm, rfl, stackFrame_withMem_withSp s m _ 1, rfl⟩

/-- Settles O48: POP writes `sp`, then the pair with the two bytes read (`popPair_of_bytes`). -/
theorem popPairs : Obligations.PopPairs := by
  unfold Obligations.PopPairs
  intro s p lo hi hl hh
  rw [exec_pop, popPair_of_bytes hl hh, setPairPsw_pair, completes_next]
  have hquiet := quietBut_setPair (s.withSp (s.sp + 2)) p (joinBytes hi lo)
  exact ⟨by simp, by simp, rfl, popFrame_of_quietBut_withSp hquiet, rfl, rfl⟩

end Sys2Proof.Proofs
end

section
/-!
PROOFS. The family of 44_io_interrupt_halt.md: its instructions neither read nor write the flags or
memory, and always complete (R226).

Each answers a next state by updates of A, IE, HALTED, `pc` and the host's side (the equations
below), and every such update commutes with a replacement of the flags and of memory. A port's byte
depends on the configuration and the draw counter alone, so it is the same under the replacement.
-/

namespace Sys2Proof.Machine

/-! ### The equations of the family -/

theorem exec_inp (p8 : Byte) (s : State) :
    exec (.inp p8) s = .next (((s.setReg .A (ioRead s p8)).withHost
      (s.host.recordRead p8 (ioRead s p8))).advance 2) := rfl

theorem exec_out (p8 : Byte) (s : State) :
    exec (.out p8) s = .next ((s.withHost (s.host.recordWrite p8 (s.reg .A))).advance 2) := rfl

theorem exec_ei (s : State) : exec .ei s = .next ((s.withIe true).advance 1) := rfl

theorem exec_di (s : State) : exec .di s = .next ((s.withIe false).advance 1) := rfl

theorem exec_hlt (s : State) : exec .hlt s = .next (s.withHalted true) := rfl

theorem exec_nop (s : State) : exec .nop s = .next (s.advance 1) := rfl

/-! ### Other flags and another memory: the family's updates commute with them -/

section OtherFlagsAndMemory

variable (s : State) (f : Flags) (m : Memory)

@[simp] theorem ioRead_withFlags (p8 : Byte) : ioRead (s.withFlags f) p8 = ioRead s p8 := rfl
@[simp] theorem ioRead_withMem (p8 : Byte) : ioRead (s.withMem m) p8 = ioRead s p8 := rfl

@[simp] theorem withHost_withFlags (h : HostSide) :
    (s.withFlags f).withHost h = (s.withHost h).withFlags f := rfl
@[simp] theorem withIe_withFlags (b : Bool) :
    (s.withFlags f).withIe b = (s.withIe b).withFlags f := rfl
@[simp] theorem withHalted_withFlags (b : Bool) :
    (s.withFlags f).withHalted b = (s.withHalted b).withFlags f := rfl

@[simp] theorem setReg_withMem (r : Reg) (v : Byte) :
    (s.withMem m).setReg r v = (s.setReg r v).withMem m := rfl
@[simp] theorem withHost_withMem (h : HostSide) :
    (s.withMem m).withHost h = (s.withHost h).withMem m := rfl
@[simp] theorem withIe_withMem (b : Bool) :
    (s.withMem m).withIe b = (s.withIe b).withMem m := rfl
@[simp] theorem withHalted_withMem (b : Bool) :
    (s.withMem m).withHalted b = (s.withHalted b).withMem m := rfl
@[simp] theorem advance_withMem (n : Word) :
    (s.withMem m).advance n = (s.advance n).withMem m := rfl

end OtherFlagsAndMemory

end Sys2Proof.Machine

namespace Sys2Proof.Proofs

open Sys2Proof.Machine

/-- Settles O56: each instruction of the family is a next state built from `s` by updates that
commute with other flags and another memory and leave both. -/
theorem ioFamilyTouchesNoFlags : Obligations.IoFamilyTouchesNoFlags := by
  unfold Obligations.IoFamilyTouchesNoFlags
  intro s f m i hi
  obtain ⟨p8, rfl | rfl⟩ | rfl | rfl | rfl | rfl := hi
  · simp [exec_inp]
  · simp [exec_out]
  · simp [exec_ei]
  · simp [exec_di]
  · simp [exec_hlt]
  · simp [exec_nop]

end Sys2Proof.Proofs
end

section
/-!
PROOFS. The family of 60_exceptions.md: the entry of an accepted interrupt (R246).

The transition is `interruptStep` on the state whose request is consumed (`step_of_interrupt`). That
state differs from the first one in the request queue alone, so the entry stores the same two bytes
(`nextRequest_storedByte`) and leaves the host's I/O as it was.
-/

namespace Sys2Proof.Machine

section InterruptRequest

variable {s : State} {n : Fin 8}

@[simp] theorem nextRequest_storedByte (s : State) (ws : List (Word × Byte)) (q : Nat) :
    storedByte (nextRequest s).2 ws q = storedByte s ws q := by
  have hmem (p : Nat) : (nextRequest s).2.mem.read p = storedByte s [] p := by
    rw [nextRequest_mem, storedByte]
  simpa using storedByte_after (nextRequest_cfg s) hmem ws q

theorem step_of_interrupt (h : (nextRequest s).1 = .interrupt n) :
    step s = interruptStep n (nextRequest s).2 := by
  rw [step, h, perform]

/-- `StepInterrupt(n)` that is accepted, with room on the stack: the entry, then the report (R246,
R254). -/
theorem interruptStep_of_storable (hh : s.halted = false) (hi : s.ie = true)
    (h : Storable s (s.sp - 1)) (h' : Storable s (s.sp - 2)) (n : Fin 8) :
    ∃ m : Memory, (∀ q, m.read q = storedByte s
        [(s.sp - 2, loByte s.pc), (s.sp - 1, hiByte s.pc)] q) ∧
      interruptStep n s =
        .next (((((s.withMem m).withSp (s.sp - 2)).withPc (vectorAddress n)).withIe
          false).withReport (some Config.intCycles)) := by
  obtain ⟨t, ht⟩ := takeInterrupt_of_storable h h' n
  obtain ⟨m, rfl, -, hm⟩ := takeInterrupt_ok ht
  exact ⟨m, hm, by simp [interruptStep, hh, hi, ht]⟩

end InterruptRequest

end Sys2Proof.Machine

namespace Sys2Proof.Proofs

open Sys2Proof.Machine

/-- Settles O12: the entry of `interruptStep_of_storable`, taken on the state whose request is
consumed. -/
theorem interruptEntry : Obligations.InterruptEntry := by
  unfold Obligations.InterruptEntry
  intro s n hr hh hi h h'
  obtain ⟨m, hm, hstep⟩ := interruptStep_of_storable (s := (nextRequest s).2)
    (by simpa using hh) (by simpa using hi) (by simpa using h) (by simpa using h') n
  simp only [nextRequest_sp, nextRequest_pc, nextRequest_storedByte] at hm
  rw [step_of_interrupt hr, hstep, completes_next]
  exact ⟨rfl, by simp, rfl, hm, nextRequest_reg s, nextRequest_flags s, nextRequest_halted s,
    nextRequest_cfg s, nextRequest_ioEvents s, nextRequest_ioDraws s⟩

end Sys2Proof.Proofs
end

section
/-!
PROOFS. What holds along every run: the invariant (a legal configuration, R66; memory in canonical
form and inside the array, R50), the configuration (R35) and the bytes that no instruction can write
(R55, R63).

`step_writes` says all that a transition does to the configuration and to memory, so each statement
is a property of `Writes`.
-/

namespace Sys2Proof.Machine

variable {s t : State}

theorem State.inv_iff (s : State) :
    s.inv = true ↔
      configLegal s.cfg = true ∧ s.mem.wf = true ∧ s.mem.within s.cfg.memorySize = true := by
  simp [State.inv, and_assoc]

/-- Writes to writable bytes keep the invariant. -/
theorem Writes.inv (hc : t.cfg = s.cfg) (hw : Writes s.cfg s.mem t.mem) (hs : s.inv = true) :
    t.inv = true := by
  obtain ⟨hlegal, hwf, hwithin⟩ := (State.inv_iff s).mp hs
  rw [State.inv_iff, hc]
  exact ⟨hlegal, hw.wf hwf, hw.within hwithin⟩

/-- A run does to the configuration and to memory what its transitions do: writes to writable
bytes. -/
theorem run_writes {k : Nat} (h : Sys2Proof.core.run k s = .next t) :
    t.cfg = s.cfg ∧ Writes s.cfg s.mem t.mem := by
  induction k generalizing s with
  | zero =>
    cases h
    exact ⟨rfl, .none⟩
  | succ k ih =>
    obtain ⟨u, hu, hrun⟩ := run_succ_next.mp h
    obtain ⟨hc, hw⟩ := step_writes hu
    obtain ⟨hc', hw'⟩ := ih hrun
    exact ⟨hc'.trans hc, hw.trans (hc ▸ hw')⟩

end Sys2Proof.Machine

namespace Sys2Proof.Proofs

open Sys2Proof.Machine

/-- Settles O16: a transition makes only writes to writable bytes (`step_writes`), and those keep
the invariant. -/
theorem stepKeepsInvariant : Obligations.StepKeepsInvariant := by
  unfold Obligations.StepKeepsInvariant
  intro s t hs h
  obtain ⟨hc, hw⟩ := step_writes h
  exact hw.inv hc hs

/-- Settles O19: by induction on the length, a run makes only writes to writable bytes
(`run_writes`). -/
theorem romAndConfigurationNeverChange : Obligations.RomAndConfigurationNeverChange := by
  unfold Obligations.RomAndConfigurationNeverChange
  intro k s t h
  obtain ⟨hc, hw⟩ := run_writes h
  exact ⟨hc, fun q hq => hw.read_outside hq⟩

/-- Settles O17: the reference configuration is legal and no byte is listed. -/
theorem resetSatisfiesInvariant : Obligations.ResetSatisfiesInvariant := by
  unfold Obligations.ResetSatisfiesInvariant
  exact (State.inv_iff State.reset).mpr ⟨by decide, rfl, rfl⟩

end Sys2Proof.Proofs
end

section
/-!
PROOFS. The family of 30_encoding.md: `decode` and `encode` are inverse to each other (R83, R90 to
R92), a step runs what the bytes at `pc` decode to (R38), and where its fetch stops (R243).

Both go by the length of the opcode byte. `decode_cases` says which three lists decode, `fetch_of_*`
what a fetch of each length gives. An instruction decodes from its own bytes shape by shape
(`decodesBack`), and the bytes an instruction was decoded from are its encoding length by length
(`encode_of_length_one`, ...).
-/

namespace Sys2Proof

/-! ### Decoding by length -/

theorem decode_of_length_one {op : Byte} (h : opLength op = 1) (rest : List Byte) :
    decode (op :: rest) = .ok (decodeOpcode op 0 0, rest) := by
  simp only [decode, h]

theorem decode_of_length_two {op : Byte} (h : opLength op = 2) (b2 : Byte) (rest : List Byte) :
    decode (op :: b2 :: rest) = .ok (decodeOpcode op b2 0, rest) := by
  simp only [decode, h]

theorem decode_of_length_three {op : Byte} (h : opLength op = 3) (b2 b3 : Byte)
    (rest : List Byte) : decode (op :: b2 :: b3 :: rest) = .ok (decodeOpcode op b2 b3, rest) := by
  simp only [decode, h]

/-- The lists that decode: an opcode byte with the bytes that its length calls for (R83, R84). -/
theorem decode_cases {bs rest : List Byte} {i : Instr} (h : decode bs = .ok (i, rest)) :
    (∃ op, opLength op = 1 ∧ bs = op :: rest ∧ i = decodeOpcode op 0 0) ∨
    (∃ op b2, opLength op = 2 ∧ bs = op :: b2 :: rest ∧ i = decodeOpcode op b2 0) ∨
    (∃ op b2 b3, opLength op = 3 ∧ bs = op :: b2 :: b3 :: rest ∧ i = decodeOpcode op b2 b3) := by
  unfold decode at h
  split at h
  · cases h
  · split at h <;> cases h
    next hl => exact .inr (.inr ⟨_, _, _, hl, rfl, rfl⟩)
    next hl => exact .inr (.inl ⟨_, _, hl, rfl, rfl⟩)
    next hl => exact .inl ⟨_, hl, rfl, rfl⟩

/-! ### An instruction decodes from its encoding -/

/-- Decoding the encoding of the instruction gives it back, if it is well formed. -/
def DecodesBack (i : Instr) : Prop :=
  i.wellFormed = true → ∀ rest, decode (encode i ++ rest) = .ok (i, rest)

theorem decodesBack_one {i : Instr} {op : Byte} (he : encode i = [op]) (hl : opLength op = 1)
    (hd : decodeOpcode op 0 0 = i) : DecodesBack i := by
  intro _ rest
  rw [he, List.singleton_append, decode_of_length_one hl, hd]

theorem decodesBack_two {i : Instr} {op b2 : Byte} (he : encode i = [op, b2])
    (hl : opLength op = 2) (hd : decodeOpcode op b2 0 = i) : DecodesBack i := by
  intro _ rest
  rw [he, List.cons_append, List.singleton_append, decode_of_length_two hl, hd]

/-- `c` is the constructor of an instruction with a 16-bit immediate (R84). -/
theorem decodesBack_three {c : Word → Instr} {op : Byte}
    (he : ∀ w, encode (c w) = [op, loByte w, hiByte w]) (hl : opLength op = 3)
    (hd : ∀ b2 b3, decodeOpcode op b2 b3 = c (joinBytes b3 b2)) (w : Word) :
    DecodesBack (c w) := by
  intro _ rest
  rw [he, List.cons_append, List.cons_append, List.singleton_append, decode_of_length_three hl,
    hd, Machine.joinBytes_hi_lo]

theorem undocumentedBytes_decode :
    ∀ op ∈ undocumentedBytes, opLength op = 1 ∧ decodeOpcode op 0 0 = .undocumented op := by
  decide

theorem decodesBack_undocumented (op : Byte) : DecodesBack (.undocumented op) := by
  intro hwf
  obtain ⟨hl, hd⟩ := undocumentedBytes_decode op (List.contains_iff_mem.mp hwf)
  exact decodesBack_one rfl hl hd hwf

/-- Every instruction decodes back: the encoding (R90) has the length (R83) and the fields (R81)
that the decoder reads. -/
theorem decodesBack (i : Instr) : DecodesBack i := by
  refine Machine.exec_cases (Q := fun i _ => DecodesBack i) ?undocumented ?movRR ?movRM ?movMR ?mviR
    ?mviM ?lxi ?lda ?sta ?lhld ?shld ?ldax ?stax ?xchg ?sphl ?xthl ?alu ?aluImm ?inr ?dcr ?inx ?dcx
    ?dad ?rlc ?rrc ?ral ?rar ?cma ?stc ?cmc ?daa ?push ?pop ?jmp ?jcc ?pchl ?call ?ccc ?ret ?rcc
    ?rst ?inp ?out ?ei ?di ?hlt ?nop i
  case undocumented => exact decodesBack_undocumented
  case movRR => intro d r; cases d <;> cases r <;> exact decodesBack_one rfl rfl rfl
  case movRM => intro d; cases d <;> exact decodesBack_one rfl rfl rfl
  case movMR => intro r; cases r <;> exact decodesBack_one rfl rfl rfl
  case mviR => intro d d8; cases d <;> exact decodesBack_two rfl rfl rfl
  case mviM => exact fun d8 => decodesBack_two rfl rfl rfl
  case lxi =>
    rintro (⟨_ | _ | _⟩ | _) <;> exact decodesBack_three (fun _ => rfl) rfl (fun _ _ => rfl)
  case lda => exact decodesBack_three (fun _ => rfl) rfl (fun _ _ => rfl)
  case sta => exact decodesBack_three (fun _ => rfl) rfl (fun _ _ => rfl)
  case lhld => exact decodesBack_three (fun _ => rfl) rfl (fun _ _ => rfl)
  case shld => exact decodesBack_three (fun _ => rfl) rfl (fun _ _ => rfl)
  case ldax => rintro (_ | _) <;> exact decodesBack_one rfl rfl rfl
  case stax => rintro (_ | _) <;> exact decodesBack_one rfl rfl rfl
  case alu =>
    rintro op (r | _)
    · cases op <;> cases r <;> exact decodesBack_one rfl rfl rfl
    · cases op <;> exact decodesBack_one rfl rfl rfl
  case aluImm => intro op d8; cases op <;> exact decodesBack_two rfl rfl rfl
  case inr =>
    rintro (r | _)
    · cases r <;> exact decodesBack_one rfl rfl rfl
    · exact decodesBack_one rfl rfl rfl
  case dcr =>
    rintro (r | _)
    · cases r <;> exact decodesBack_one rfl rfl rfl
    · exact decodesBack_one rfl rfl rfl
  case inx => rintro (⟨_ | _ | _⟩ | _) <;> exact decodesBack_one rfl rfl rfl
  case dcx => rintro (⟨_ | _ | _⟩ | _) <;> exact decodesBack_one rfl rfl rfl
  case dad => rintro (⟨_ | _ | _⟩ | _) <;> exact decodesBack_one rfl rfl rfl
  case push => rintro (⟨_ | _ | _⟩ | _) <;> exact decodesBack_one rfl rfl rfl
  case pop => rintro (⟨_ | _ | _⟩ | _) <;> exact decodesBack_one rfl rfl rfl
  case jmp => exact decodesBack_three (fun _ => rfl) rfl (fun _ _ => rfl)
  case jcc => intro c; cases c <;> exact decodesBack_three (fun _ => rfl) rfl (fun _ _ => rfl)
  case call => exact decodesBack_three (fun _ => rfl) rfl (fun _ _ => rfl)
  case ccc => intro c; cases c <;> exact decodesBack_three (fun _ => rfl) rfl (fun _ _ => rfl)
  case rcc => intro c; cases c <;> exact decodesBack_one rfl rfl rfl
  case rst =>
    exact fun n => match n with
      | 0 | 1 | 2 | 3 | 4 | 5 | 6 | 7 => decodesBack_one rfl rfl rfl
  case inp => exact fun p8 => decodesBack_two rfl rfl rfl
  case out => exact fun p8 => decodesBack_two rfl rfl rfl
  all_goals exact decodesBack_one rfl rfl rfl

/-! ### The bytes an instruction was decoded from are its encoding -/

theorem mem_of_opLength_two {op : Byte} (h : opLength op = 2) : op ∈ opcodesOfLength2 := by
  unfold opLength at h
  split at h
  · cases h
  · split at h
    · exact List.contains_iff_mem.mp ‹_›
    · cases h

theorem mem_of_opLength_three {op : Byte} (h : opLength op = 3) : op ∈ opcodesOfLength3 := by
  unfold opLength at h
  split at h
  · exact List.contains_iff_mem.mp ‹_›
  · split at h <;> cases h

theorem encode_of_length_one : ∀ op : Byte, opLength op = 1 →
    (decodeOpcode op 0 0).wellFormed = true ∧ encode (decodeOpcode op 0 0) = [op] := by
  decide

theorem encode_of_length_two {op : Byte} (h : opLength op = 2) (b2 : Byte) :
    (decodeOpcode op b2 0).wellFormed = true ∧ encode (decodeOpcode op b2 0) = [op, b2] := by
  have hmem := mem_of_opLength_two h
  clear h
  fin_cases hmem <;> exact ⟨rfl, rfl⟩

theorem encode_of_length_three {op : Byte} (h : opLength op = 3) (b2 b3 : Byte) :
    (decodeOpcode op b2 b3).wellFormed = true ∧ encode (decodeOpcode op b2 b3) = [op, b2, b3] := by
  have hbytes : [op, b2, b3]
      = [op, loByte (joinBytes b3 b2), hiByte (joinBytes b3 b2)] := by simp
  have hmem := mem_of_opLength_three h
  rw [hbytes]
  clear h hbytes
  fin_cases hmem <;> exact ⟨rfl, rfl⟩

end Sys2Proof

namespace Sys2Proof.Machine

/-! ### The fetch -/

variable {s : State} {op b2 b3 : Byte}

theorem fetch_of_length_one (h : memRead s s.pc = .ok op) (hl : opLength op = 1) :
    fetch s = .ok (decodeOpcode op 0 0) := by
  simp only [fetch, h, hl]

theorem fetch_of_length_two (h : memRead s s.pc = .ok op) (hl : opLength op = 2)
    (h2 : memRead s (s.pc + 1) = .ok b2) : fetch s = .ok (decodeOpcode op b2 0) := by
  simp only [fetch, h, hl, h2]

theorem fetch_of_length_three (h : memRead s s.pc = .ok op) (hl : opLength op = 3)
    (h2 : memRead s (s.pc + 1) = .ok b2) (h3 : memRead s (s.pc + 2) = .ok b3) :
    fetch s = .ok (decodeOpcode op b2 b3) := by
  simp only [fetch, h, hl, h2, h3]

/-- A fetch of the bytes at `pc` gives the instruction that they decode to (R38). -/
theorem fetch_of_bytesAtPc {bs : List Byte} {i : Instr} (hb : BytesAtPc s bs)
    (hd : decode bs = .ok (i, [])) : fetch s = .ok i := by
  rcases decode_cases hd with ⟨op, hl, rfl, rfl⟩ | ⟨op, b2, hl, rfl, rfl⟩ |
    ⟨op, b2, b3, hl, rfl, rfl⟩
  · exact fetch_of_length_one (by simpa using hb 0 (by simp)) hl
  · exact fetch_of_length_two (by simpa using hb 0 (by simp)) hl (hb 1 (by simp))
  · exact fetch_of_length_three (by simpa using hb 0 (by simp)) hl (hb 1 (by simp))
      (hb 2 (by simp))

theorem opLength_cases (op : Byte) : opLength op = 1 ∨ opLength op = 2 ∨ opLength op = 3 := by
  unfold opLength
  split
  · exact .inr (.inr rfl)
  · split
    · exact .inr (.inl rfl)
    · exact .inl rfl

theorem fetch_of_opcode_not_readable (h : ¬ Readable s s.pc) :
    fetch s = .error (.addressOutOfRange s.pc) := by
  simp only [fetch, memRead_of_not_readable h]

theorem fetch_of_second_not_readable (h : memRead s s.pc = .ok op) (hl : 2 ≤ opLength op)
    (h2 : ¬ Readable s (s.pc + 1)) : fetch s = .error (.addressOutOfRange (s.pc + 1)) := by
  rcases opLength_cases op with hop | hop | hop
  · omega
  · simp only [fetch, h, hop, memRead_of_not_readable h2]
  · simp only [fetch, h, hop, memRead_of_not_readable h2]

theorem fetch_of_third_not_readable (h : memRead s s.pc = .ok op) (hl : opLength op = 3)
    (h2 : Readable s (s.pc + 1)) (h3 : ¬ Readable s (s.pc + 2)) :
    fetch s = .error (.addressOutOfRange (s.pc + 2)) := by
  obtain ⟨p, hp⟩ := h2
  simp only [fetch, h, hl, memRead_of_phys hp, memRead_of_not_readable h3]

/-! ### The step -/

/-- `Step()` of a running core: fetch, execute, report; a fault of the fetch or of the instruction
ends it (R38, R241). -/
theorem step_of_running (hh : s.halted = false) (hr : (nextRequest s).1 = .step) :
    step s = attempt (fetch s) fun i =>
      reportCycles (cyclesOf s.cfg i s.flags) (exec i (nextRequest s).2) := by
  simp [step, hr, perform, instructionStep, hh]

theorem step_of_fetch {i : Instr} (hh : s.halted = false) (hr : (nextRequest s).1 = .step)
    (hf : fetch s = .ok i) :
    step s = reportCycles (cyclesOf s.cfg i s.flags) (exec i (nextRequest s).2) := by
  rw [step_of_running hh hr, hf, attempt_ok]

theorem step_of_fetch_error {f : Fault} (hh : s.halted = false)
    (hr : (nextRequest s).1 = .step) (hf : fetch s = .error f) : step s = .fault f := by
  rw [step_of_running hh hr, hf, attempt_error]

theorem exec_undocumented (op : Byte) (s : State) :
    exec (.undocumented op) s = .fault (.unimplementedOpcode op s.pc) := rfl

end Sys2Proof.Machine

namespace Sys2Proof.Proofs

open Sys2Proof.Machine

/-- Settles O2: shape by shape, the encoding has the length and the fields that the decoder reads
(`decodesBack`). -/
theorem decodeInvertsEncode : Obligations.DecodeInvertsEncode := by
  unfold Obligations.DecodeInvertsEncode
  exact fun i rest hwf => decodesBack i hwf rest

/-- Settles O3: length by length, the bytes decoded are the encoding of the instruction
(`encode_of_length_one`, `encode_of_length_two`, `encode_of_length_three`). -/
theorem encodeInvertsDecode : Obligations.EncodeInvertsDecode := by
  unfold Obligations.EncodeInvertsDecode
  intro bs rest i h
  rcases decode_cases h with ⟨op, hl, rfl, rfl⟩ | ⟨op, b2, hl, rfl, rfl⟩ |
    ⟨op, b2, b3, hl, rfl, rfl⟩
  · obtain ⟨hwf, he⟩ := encode_of_length_one op hl
    exact ⟨hwf, by rw [he]; rfl⟩
  · obtain ⟨hwf, he⟩ := encode_of_length_two hl b2
    exact ⟨hwf, by rw [he]; rfl⟩
  · obtain ⟨hwf, he⟩ := encode_of_length_three hl b2 b3
    exact ⟨hwf, by rw [he]; rfl⟩

/-- Settles O5: the fetch reads the opcode, then the bytes that its length calls for, and stops at
the first read that fails; an undocumented byte has length 1. -/
theorem fetchFaultsInOrder : Obligations.FetchFaultsInOrder := by
  unfold Obligations.FetchFaultsInOrder
  intro s hh hr
  refine ⟨fun h => step_of_fetch_error hh hr (fetch_of_opcode_not_readable h), fun op hop =>
    ⟨fun hu => ?undocumented,
      fun hl h2 => step_of_fetch_error hh hr (fetch_of_second_not_readable hop hl h2),
      fun hl h2 h3 => step_of_fetch_error hh hr (fetch_of_third_not_readable hop hl h2 h3)⟩⟩
  case undocumented =>
    obtain ⟨hl, hd⟩ := undocumentedBytes_decode op (List.contains_iff_mem.mp hu)
    rw [step_of_fetch hh hr (fetch_of_length_one hop hl), hd, exec_undocumented, nextRequest_pc]
    rfl

/-- Settles O1: the decoder computes each word. -/
theorem opcodeWordsDecode : Obligations.OpcodeWordsDecode := by
  unfold Obligations.OpcodeWordsDecode
  exact ⟨rfl, rfl, rfl, rfl, rfl, rfl, rfl, rfl, rfl, rfl, rfl⟩

/-- Settles O4: the fetch gives the instruction that the bytes decode to (`fetch_of_bytesAtPc`). -/
theorem stepRunsDecodedInstruction : Obligations.StepRunsDecodedInstruction := by
  unfold Obligations.StepRunsDecodedInstruction
  exact fun s bs i hh hr hb hd _ => step_of_fetch hh hr (fetch_of_bytesAtPc hb hd)

/-- Settles O6: the meaning of an undocumented byte is the fault, in every state. -/
theorem undocumentedOpcodeFaults : Obligations.UndocumentedOpcodeFaults := by
  unfold Obligations.UndocumentedOpcodeFaults
  exact fun op s _ => exec_undocumented op s

end Sys2Proof.Proofs
end

section
/-!
PROOFS. What a transition can answer (R240, D31), and the requests it answers without executing an
instruction: Reset (R270), an interrupt ignored (R247) or refused while Halted (R248).

Every operation that can fail is made of reads and writes, and fails with the fault of one of them
(`OnlyStepFaults`). So `exec` raises only the faults of the memory controller and
`UnimplementedOpcode` (`stepAnswer_exec`).
-/

namespace Sys2Proof.Machine

/-! ### The faults of a step -/

/-- The faults that a transition can raise: all of R240 but those of loading and of the register
file's interface. -/
inductive StepFault : Fault → Prop where
  | unimplementedOpcode (op : Byte) (a : Word) : StepFault (.unimplementedOpcode op a)
  | steppedWhileHalted : StepFault .steppedWhileHalted
  | interruptWhileHalted (n : Fin 8) : StepFault (.interruptWhileHalted n)
  | addressOutOfRange (a : Word) : StepFault (.addressOutOfRange a)
  | writeProtected (a : Word) : StepFault (.writeProtected a)

/-- A next state, or a fault of a step. -/
inductive StepAnswer : Result → Prop where
  | next (t : State) : StepAnswer (.next t)
  | fault {f : Fault} : StepFault f → StepAnswer (.fault f)

/-- The operation fails only with a fault of a step. -/
def OnlyStepFaults {α : Type} (r : Except Fault α) : Prop := ∀ f, r = .error f → StepFault f

section Combining

variable {α : Type}

theorem onlyStepFaults_ok (v : α) : OnlyStepFaults (.ok v) := fun _ h => nomatch h

theorem stepAnswer_attempt {r : Except Fault α} {k : α → Result} (hr : OnlyStepFaults r)
    (hk : ∀ v, StepAnswer (k v)) : StepAnswer (attempt r k) := by
  cases r with
  | ok v => exact hk v
  | error f => exact .fault (hr f rfl)

end Combining

/-! ### The operations that can fail -/

section Operations

variable (s : State)

theorem onlyStepFaults_memRead (a : Word) : OnlyStepFaults (memRead s a) := by
  intro f h
  rcases memRead_cases s a with ⟨p, -, hr⟩ | ⟨hr, -⟩ <;> rw [hr] at h <;> cases h
  exact .addressOutOfRange a

theorem onlyStepFaults_memWrite (a : Word) (v : Byte) : OnlyStepFaults (memWrite s a v) := by
  intro f h
  rcases memWrite_error h with rfl | rfl
  · exact .addressOutOfRange a
  · exact .writeProtected a

theorem onlyStepFaults_readWord (a : Word) : OnlyStepFaults (readWord s a) := by
  intro f h
  unfold readWord at h
  split at h
  · cases h
    exact onlyStepFaults_memRead s a f ‹_›
  · split at h <;> cases h
    exact onlyStepFaults_memRead s (a + 1) f ‹_›

theorem onlyStepFaults_writeWord (a v : Word) : OnlyStepFaults (writeWord s a v) := by
  intro f h
  unfold writeWord at h
  split at h
  · cases h
    exact onlyStepFaults_memWrite s a (loByte v) f ‹_›
  · exact onlyStepFaults_memWrite _ (a + 1) (hiByte v) f h

theorem onlyStepFaults_push16 (v : Word) : OnlyStepFaults (push16 s v) := by
  intro f h
  unfold push16 at h
  split at h
  · cases h
    exact onlyStepFaults_memWrite s (s.sp - 1) (hiByte v) f ‹_›
  · split at h <;> cases h
    exact onlyStepFaults_memWrite _ (s.sp - 2) (loByte v) f ‹_›

theorem onlyStepFaults_pop16 : OnlyStepFaults (pop16 s) := by
  intro f h
  unfold pop16 at h
  split at h <;> cases h
  exact onlyStepFaults_readWord s s.sp f ‹_›

theorem onlyStepFaults_callTo (ret target : Word) : OnlyStepFaults (callTo s ret target) := by
  intro f h
  unfold callTo at h
  split at h <;> cases h
  exact onlyStepFaults_push16 s ret f ‹_›

theorem onlyStepFaults_takeInterrupt (n : Fin 8) : OnlyStepFaults (takeInterrupt s n) := by
  intro f h
  unfold takeInterrupt at h
  split at h <;> cases h
  exact onlyStepFaults_callTo s s.pc (vectorAddress n) f ‹_›

theorem onlyStepFaults_returnFrom : OnlyStepFaults (returnFrom s) := by
  intro f h
  unfold returnFrom at h
  split at h <;> cases h
  exact onlyStepFaults_pop16 s f ‹_›

theorem onlyStepFaults_exchangeStackTop : OnlyStepFaults (exchangeStackTop s) := by
  intro f h
  unfold exchangeStackTop at h
  split at h
  · cases h
    exact onlyStepFaults_readWord s s.sp f ‹_›
  · split at h <;> cases h
    exact onlyStepFaults_writeWord s s.sp (s.pair .HL) f ‹_›

theorem onlyStepFaults_readOperand (o : Operand) : OnlyStepFaults (readOperand s o) := by
  cases o with
  | reg r => exact onlyStepFaults_ok (s.reg r)
  | M => exact onlyStepFaults_memRead s (s.pair .HL)

theorem onlyStepFaults_writeOperand (o : Operand) (v : Byte) :
    OnlyStepFaults (writeOperand s o v) := by
  cases o with
  | reg r => exact onlyStepFaults_ok (s.setReg r v)
  | M => exact onlyStepFaults_memWrite s (s.pair .HL) v

theorem onlyStepFaults_fetch : OnlyStepFaults (fetch s) := by
  intro f h
  unfold fetch at h
  split at h
  · cases h
    exact onlyStepFaults_memRead s s.pc f ‹_›
  · split at h
    · split at h
      · cases h
        exact onlyStepFaults_memRead s (s.pc + 1) f ‹_›
      · split at h <;> cases h
        exact onlyStepFaults_memRead s (s.pc + 2) f ‹_›
    · split at h <;> cases h
      exact onlyStepFaults_memRead s (s.pc + 1) f ‹_›
    · cases h

end Operations

/-! ### The shared meanings, the instructions, the requests -/

section Answers

variable (s : State)

theorem stepAnswer_loadReg (d : Reg) (a len : Word) : StepAnswer (loadReg d a len s) :=
  stepAnswer_attempt (onlyStepFaults_memRead s a) fun _ => .next _

theorem stepAnswer_storeByte (a : Word) (v : Byte) (len : Word) :
    StepAnswer (storeByte a v len s) :=
  stepAnswer_attempt (onlyStepFaults_memWrite s a v) fun _ => .next _

theorem stepAnswer_callSub (a16 : Word) : StepAnswer (callSub a16 s) :=
  stepAnswer_attempt (onlyStepFaults_callTo s (s.pc + 3) a16) fun t => .next t

theorem stepAnswer_returnSub : StepAnswer (returnSub s) :=
  stepAnswer_attempt (onlyStepFaults_returnFrom s) fun t => .next t

/-- Every instruction, in every state: the shapes that access memory are covered by the operations
above, the others answer a next state, but for an undocumented byte. -/
theorem stepAnswer_exec (i : Instr) : StepAnswer (exec i s) := by
  refine exec_cases (Q := fun _ f => ∀ s, StepAnswer (f s)) ?undocumented ?movRR ?movRM ?movMR ?mviR
    ?mviM ?lxi ?lda ?sta ?lhld ?shld ?ldax ?stax ?xchg ?sphl ?xthl ?alu ?aluImm ?inr ?dcr ?inx ?dcx
    ?dad ?rlc ?rrc ?ral ?rar ?cma ?stc ?cmc ?daa ?push ?pop ?jmp ?jcc ?pchl ?call ?ccc ?ret ?rcc
    ?rst ?inp ?out ?ei ?di ?hlt ?nop i s
  case undocumented => exact fun op s => .fault (.unimplementedOpcode op s.pc)
  case movRM => exact fun d s => stepAnswer_loadReg s d (s.pair .HL) 1
  case movMR => exact fun r s => stepAnswer_storeByte s (s.pair .HL) (s.reg r) 1
  case mviM => exact fun d8 s => stepAnswer_storeByte s (s.pair .HL) d8 2
  case lda => exact fun a16 s => stepAnswer_loadReg s .A a16 3
  case sta => exact fun a16 s => stepAnswer_storeByte s a16 (s.reg .A) 3
  case ldax => exact fun p s => stepAnswer_loadReg s .A (s.pair (pairOfBD p)) 1
  case stax => exact fun p s => stepAnswer_storeByte s (s.pair (pairOfBD p)) (s.reg .A) 1
  case lhld =>
    exact fun a16 s => stepAnswer_attempt (onlyStepFaults_readWord s a16) fun _ => .next _
  case shld =>
    exact fun a16 s => stepAnswer_attempt (onlyStepFaults_writeWord s a16 (s.pair .HL))
      fun _ => .next _
  case xthl =>
    exact fun s => stepAnswer_attempt (onlyStepFaults_exchangeStackTop s) fun _ => .next _
  case alu =>
    exact fun op o s => stepAnswer_attempt (onlyStepFaults_readOperand s o) fun _ => .next _
  case inr =>
    exact fun o s => stepAnswer_attempt (onlyStepFaults_readOperand s o) fun v =>
      stepAnswer_attempt (onlyStepFaults_writeOperand s o (v + 1)) fun _ => .next _
  case dcr =>
    exact fun o s => stepAnswer_attempt (onlyStepFaults_readOperand s o) fun v =>
      stepAnswer_attempt (onlyStepFaults_writeOperand s o (v - 1)) fun _ => .next _
  case push =>
    exact fun p s => stepAnswer_attempt (onlyStepFaults_push16 s (s.pairPsw p)) fun _ => .next _
  case pop => exact fun p s => stepAnswer_attempt (onlyStepFaults_pop16 s) fun _ => .next _
  case call => exact fun a16 s => stepAnswer_callSub s a16
  case ccc =>
    intro c a16 s
    unfold callIf
    split
    · exact stepAnswer_callSub s a16
    · exact .next _
  case ret => exact stepAnswer_returnSub
  case rcc =>
    intro c s
    unfold returnIf
    split
    · exact stepAnswer_returnSub s
    · exact .next _
  case rst =>
    exact fun n s => stepAnswer_attempt (onlyStepFaults_callTo s (s.pc + 1) (vectorAddress n))
      fun t => .next t
  all_goals
    intros
    exact .next _

theorem stepAnswer_reportCycles {r : Result} (n : Nat) (h : StepAnswer r) :
    StepAnswer (reportCycles n r) := by
  cases h with
  | next t => exact .next _
  | fault hf => exact .fault hf

theorem stepAnswer_instructionStep : StepAnswer (instructionStep s) := by
  unfold instructionStep
  split
  · exact .fault .steppedWhileHalted
  · exact stepAnswer_attempt (onlyStepFaults_fetch s) fun i =>
      stepAnswer_reportCycles _ (stepAnswer_exec s i)

theorem stepAnswer_interruptStep (n : Fin 8) : StepAnswer (interruptStep n s) := by
  unfold interruptStep
  split
  · exact .fault (.interruptWhileHalted n)
  · split
    · exact stepAnswer_attempt (onlyStepFaults_takeInterrupt s n) fun _ => .next _
    · exact .next _

/-- Every transition answers a next state or a fault of a step. -/
theorem stepAnswer_step : StepAnswer (step s) := by
  unfold step
  cases (nextRequest s).1 with
  | step => exact stepAnswer_instructionStep _
  | interrupt n => exact stepAnswer_interruptStep _ n
  | reset => exact .next _

end Answers

end Sys2Proof.Machine

namespace Sys2Proof.Proofs

open Sys2Proof.Machine

/-- Settles O7: neither a refusal nor a fault of loading or of the register file's interface is a
`StepAnswer`. -/
theorem stepAnswersOnlyStepFaults : Obligations.StepAnswersOnlyStepFaults := by
  unfold Obligations.StepAnswersOnlyStepFaults
  intro s
  have h := stepAnswer_step s
  refine ⟨fun r hr => ?_, fun n hn => ?_, fun id hid => ?_⟩
  · rw [hr] at h
    cases h
  · rw [hn] at h
    cases h with | fault hf => cases hf
  · rw [hid] at h
    cases h with | fault hf => cases hf

/-- Settles O8: the reset state is a literal, and an array that lists no byte reads 0. -/
theorem resetStateValues : Obligations.ResetStateValues := by
  unfold Obligations.ResetStateValues
  exact ⟨fun r => by cases r <;> rfl, rfl, by decide, rfl, rfl, rfl, rfl, fun _ => rfl⟩

/-- Settles O9: Reset puts the reset values beside the memory and configuration that it finds. -/
theorem resetRequestResets : Obligations.ResetRequestResets := by
  unfold Obligations.ResetRequestResets
  intro s hr
  rw [step_of_reset hr, completes_next]
  exact ⟨fun r => by cases r <;> rfl, rfl, rfl, rfl, rfl, rfl, nextRequest_cfg s,
    fun q => congrArg (Memory.read · q) (nextRequest_mem s)⟩

/-- Settles O13: the request is consumed, and nothing is taken or reported. -/
theorem interruptIgnoredWhileDisabled : Obligations.InterruptIgnoredWhileDisabled := by
  unfold Obligations.InterruptIgnoredWhileDisabled
  intro s n hr hh hi
  simp [step_of_interrupt hr, interruptStep, hh, hi]

/-- Settles O14: HALTED is checked before IE. -/
theorem interruptWhileHaltedFaults : Obligations.InterruptWhileHaltedFaults := by
  unfold Obligations.InterruptWhileHaltedFaults
  intro s n hr hh
  simp [step_of_interrupt hr, interruptStep, hh]

end Sys2Proof.Proofs
end

section
/-!
PROOFS. The family of 20_memory.md: construction and LoadRom (R64, R66, R271), mirror translation
(R52, R56), the memory controller's read and write (R53 to R55).

Loading is a sequence of writes from an address upward: `loadBytes_read` says what each byte reads
as afterwards, and `loadBytes_wf`, `loadBytes_within` that the array stays canonical and in range.
-/

namespace Sys2Proof.Machine

/-! ### Loading -/

theorem loadBytes_wf {m : Memory} (bs : List Byte) (at0 : Nat) (h : m.wf = true) :
    (loadBytes m at0 bs).wf = true := by
  induction bs generalizing m at0 with
  | nil => exact h
  | cons b rest ih => exact ih (at0 + 1) (Memory.wf_write at0 b h)

theorem loadBytes_within {m : Memory} {bs : List Byte} {at0 size : Nat}
    (h : m.within size = true) (hlen : at0 + bs.length ≤ size) :
    (loadBytes m at0 bs).within size = true := by
  induction bs generalizing m at0 with
  | nil => exact h
  | cons b rest ih =>
    rw [List.length_cons] at hlen
    exact ih (Memory.within_write b h (by omega)) (by omega)

/-- Loading leaves the bytes below its start. -/
theorem loadBytes_read_below (m : Memory) (bs : List Byte) {at0 q : Nat} (hq : q < at0) :
    (loadBytes m at0 bs).read q = m.read q := by
  induction bs generalizing m at0 with
  | nil => rfl
  | cons b rest ih =>
    rw [loadBytes, ih _ (by omega), Memory.read_write_ne m (by omega)]

/-- Byte `q` from the start of a load is byte `q` of the list, and past it as before. -/
theorem loadBytes_read (m : Memory) (bs : List Byte) (at0 q : Nat) :
    (loadBytes m at0 bs).read (at0 + q) = bs.getD q (m.read (at0 + q)) := by
  induction bs generalizing m at0 q with
  | nil => rfl
  | cons b rest ih =>
    rw [loadBytes]
    cases q with
    | zero => rw [loadBytes_read_below _ _ (by omega)]; simp
    | succ q =>
      rw [show at0 + (q + 1) = at0 + 1 + q by omega, ih,
        Memory.read_write_ne m (by omega), List.getD_cons_succ]

/-! ### Construction -/

section Construction

variable {c : Config} {bytes : List Byte} {l : Launch} {t : State}

/-- The state of a construction (R271). -/
def constructed (c : Config) (memInit : List Byte) (l : Launch) : State :=
  { State.reset with
    regs := l.regs, flags := l.flags, pc := l.pc, sp := l.sp, ie := l.ie
    mem := loadBytes [] 0 memInit, cfg := c }

theorem construct_of_legal (hc : configLegal c = true) (hlen : bytes.length = c.memorySize) :
    construct c bytes l = .next (constructed c bytes l) := by
  rw [construct, if_pos hc, if_pos hlen, constructed]

/-- Everything a construction that succeeds does. -/
theorem construct_next (h : construct c bytes l = .next t) :
    configLegal c = true ∧ bytes.length = c.memorySize ∧ t = constructed c bytes l := by
  unfold construct at h
  split at h
  · split at h <;> cases h
    exact ⟨‹_›, ‹_›, rfl⟩
  · cases h

/-- The array that a ROM load constructs: the image, then zeros (R64). -/
def romArray (c : Config) (bytes : List Byte) : List Byte :=
  bytes ++ List.replicate (c.memorySize - bytes.length) 0

theorem loadRom_of_fits (hc : configLegal c = true) (hcap : bytes.length ≤ romCapacity)
    (hsize : bytes.length ≤ c.memorySize) :
    loadRom c bytes l = construct c (romArray c bytes) l := by
  rw [loadRom, if_pos hc, if_pos ⟨hcap, hsize⟩, romArray]

theorem loadRom_of_not_fits (hc : configLegal c = true)
    (h : ¬ (bytes.length ≤ romCapacity ∧ bytes.length ≤ c.memorySize)) :
    loadRom c bytes l = .fault (.romTooLarge bytes.length) := by
  rw [loadRom, if_pos hc, if_neg h]

/-- A ROM load that succeeds is a construction. -/
theorem loadRom_next (h : loadRom c bytes l = .next t) :
    construct c (romArray c bytes) l = .next t := by
  unfold loadRom at h
  split at h
  · split at h
    · exact h
    · cases h
  · cases h

theorem construct_of_illegal (hc : configLegal c = false) :
    construct c bytes l = .refused .illegalConfiguration := by
  simp [construct, hc]

theorem loadRom_of_illegal (hc : configLegal c = false) :
    loadRom c bytes l = .refused .illegalConfiguration := by
  simp [loadRom, hc]

theorem constructed_inv (hc : configLegal c = true) (hlen : bytes.length = c.memorySize) :
    (constructed c bytes l).inv = true := by
  have hwf : (loadBytes [] 0 bytes).wf = true := loadBytes_wf bytes 0 rfl
  have hwithin : (loadBytes [] 0 bytes).within c.memorySize = true :=
    loadBytes_within rfl (by omega)
  simp [State.inv, constructed, hc, hwf, hwithin]

theorem constructed_read (q : Nat) : (constructed c bytes l).mem.read q = bytes.getD q 0 := by
  have h : (loadBytes [] 0 bytes).read (0 + q) = bytes.getD q 0 := loadBytes_read [] bytes 0 q
  rwa [Nat.zero_add] at h

theorem length_romArray (hsize : bytes.length ≤ c.memorySize) :
    (romArray c bytes).length = c.memorySize := by
  rw [romArray, List.length_append, List.length_replicate]
  omega

theorem romArray_getD (q : Nat) : (romArray c bytes).getD q 0 = bytes.getD q 0 := by
  rcases Nat.lt_or_ge q bytes.length with hq | hq
  · rw [romArray, List.getD_append _ _ _ _ hq]
  · rw [romArray, List.getD_append_right _ _ _ _ hq, List.getD_eq_getElem?_getD,
      List.getElem?_getD_replicate_default_eq, List.getD_eq_default _ _ hq]

end Construction

/-! ### The memory controller -/

theorem phys_of_translateAddr_ge {c : Config} {a : Word} (h : c.memorySize ≤ translateAddr c a) :
    phys c a = .error (.addressOutOfRange a) := by
  rw [phys, if_neg (Nat.not_lt.mpr h)]

/-- In a legal configuration the mirror is no longer than the writable range, which lies inside the
array (R66). -/
theorem mirror_of_legal {c : Config} {m : AddrRange} (hc : configLegal c = true)
    (hm : c.mirror = some m) :
    m.last - m.first ≤ c.writable.last - c.writable.first ∧
      c.writable.first ≤ c.writable.last ∧ c.writable.last < c.memorySize := by
  simp only [configLegal, hm, Bool.and_eq_true, decide_eq_true_eq] at hc
  obtain ⟨⟨⟨⟨-, hord⟩, hlast⟩, -, hlen⟩, -⟩ := hc
  exact ⟨hlen, hord, hlast⟩

section Controller

variable {s : State} {a : Word} {p : Nat}

/-- A write that is not allowed, under the policy `drop` (R55). -/
theorem memWrite_of_dropped (h : phys s.cfg a = .ok p)
    (hw : AddrRange.contains s.cfg.writable p = false) (hpol : s.cfg.writePolicy = .drop)
    (v : Byte) : memWrite s a v = .ok s := by
  simp [memWrite, h, hw, hpol]

end Controller

end Sys2Proof.Machine

namespace Sys2Proof.Proofs

open Sys2Proof.Machine

/-- Settles O18: a ROM load that succeeds is a construction, and a construction succeeds with
`constructed` alone. -/
theorem constructionSatisfiesInvariant : Obligations.ConstructionSatisfiesInvariant := by
  unfold Obligations.ConstructionSatisfiesInvariant
  refine fun c bytes l => ⟨fun t h => ?_,
    fun hc => ⟨construct_of_illegal hc, loadRom_of_illegal hc⟩⟩
  obtain ⟨memInit, hcon⟩ : ∃ memInit, construct c memInit l = .next t :=
    h.elim (fun h => ⟨bytes, h⟩) (fun h => ⟨romArray c bytes, loadRom_next h⟩)
  obtain ⟨hc, hlen, rfl⟩ := construct_next hcon
  exact ⟨constructed_inv hc hlen, rfl, rfl, rfl, rfl, rfl, rfl, rfl⟩

/-- Settles O20: what fits is constructed with zeros behind it, which read as the bytes past the
image do (`romArray_getD`). -/
theorem loadRomContents : Obligations.LoadRomContents := by
  unfold Obligations.LoadRomContents
  refine fun c bytes l hc => ⟨fun hcap hsize => ?fits, fun h => ?tooLarge⟩
  case fits =>
    rw [loadRom_of_fits hc hcap hsize, construct_of_legal hc (length_romArray hsize),
      completes_next]
    exact fun q => (constructed_read q).trans (romArray_getD q)
  case tooLarge =>
    refine loadRom_of_not_fits hc ?_
    rw [romCapacity]
    omega

/-- Settles O21: `translateAddr_of_mirrored` and `translateAddr_of_unmirrored`, each followed by the
range check. -/
theorem mirrorTranslation : Obligations.MirrorTranslation := by
  unfold Obligations.MirrorTranslation
  refine fun c a => ⟨fun m hm hfirst hlast => ?mirrored, fun hout => ?unmirrored⟩
  case mirrored =>
    have ht := translateAddr_of_mirrored hm ((AddrRange.contains_iff m _).mpr ⟨hfirst, hlast⟩)
    refine ⟨phys_of_translateAddr ht, fun h => phys_of_translateAddr_ge (ht ▸ h), fun hc => ?_⟩
    obtain ⟨hlen, hord, hsize⟩ := mirror_of_legal hc hm
    exact ⟨_, phys_of_translateAddr ht (by omega), by omega, by omega⟩
  case unmirrored =>
    have ht : translateAddr c a = a.toNat := by
      refine translateAddr_of_unmirrored fun m hm => ?_
      rw [← Bool.not_eq_true, AddrRange.contains_iff]
      have := hout m hm
      omega
    exact ⟨phys_of_translateAddr ht, fun h => phys_of_translateAddr_ge (ht ▸ h)⟩

/-- Settles O23: the range check comes first, then the writable range, then the policy. -/
theorem memoryControllerContract : Obligations.MemoryControllerContract := by
  unfold Obligations.MemoryControllerContract
  refine fun s a v => ⟨fun h => ?outside, fun p hp => ⟨memRead_of_phys hp, fun hw => ?stored,
    fun hw hpol => memWrite_of_dropped hp hw hpol v, fun hw hpol => ?fault⟩⟩
  case outside =>
    have hphys := phys_of_translateAddr_ge h
    exact ⟨by simp [memRead, hphys], memWrite_of_storeFaults (.inl hphys) v⟩
  case stored =>
    obtain ⟨t, ht, hread⟩ := memRead_of_memWrite_alias hp hp hw v
    obtain rfl : s.withMem (s.mem.write p v) = t :=
      Except.ok.inj ((memWrite_of_writable hp hw v).symm.trans ht)
    exact ⟨_, ht, hread, fun q hq => Memory.read_write_ne s.mem hq v, rfl⟩
  case fault => exact memWrite_of_storeFaults (.inr ⟨⟨p, hp, hw⟩, hpol, rfl⟩) v

end Sys2Proof.Proofs
end

section
/-!
PROOFS. The packed flag byte (R29); the families of 41_arithmetic.md and 42_logical.md: the 8-bit
subtractor (R131), SUB and SBB (R136 to R139), DCR (R142, R143), the logical operations (R161 to
R166), CMP (R167, R168), the rotates (R169 to R172), DAA (R176).

Subtraction is addition of the complement, so its results are those of the adder
(`toNat_add8_res`, `add8_cy_iff`, `add8_ac_iff`) read with 255 - b for b. DAA is one addition, of a
correction whose two conditions are those of the two steps (`daaLow_iff`, `daaHigh_iff`).
-/

namespace Sys2Proof.Machine

/-! ### The packed flag byte (R29) -/

/-- Bit by bit the packed byte is S Z 0 AC 0 P 1 CY. -/
theorem getLsbD_flagsToByte (f : Flags) :
    (flagsToByte f).getLsbD 7 = f.s ∧ (flagsToByte f).getLsbD 6 = f.z ∧
    (flagsToByte f).getLsbD 5 = false ∧ (flagsToByte f).getLsbD 4 = f.ac ∧
    (flagsToByte f).getLsbD 3 = false ∧ (flagsToByte f).getLsbD 2 = f.p ∧
    (flagsToByte f).getLsbD 1 = true ∧ (flagsToByte f).getLsbD 0 = f.cy := by
  obtain ⟨s, z, ac, p, cy⟩ := f
  revert s z ac p cy
  decide

theorem flagsOfByte_flagsToByte (f : Flags) : flagsOfByte (flagsToByte f) = f := by
  obtain ⟨hs, hz, -, hac, -, hp, -, hcy⟩ := getLsbD_flagsToByte f
  simp only [flagsOfByte, hs, hz, hac, hp, hcy]

/-- Packing an unpacked byte sets its fixed bits. -/
theorem flagsToByte_flagsOfByte :
    ∀ b : Byte, flagsToByte (flagsOfByte b) = (b &&& 0xD5) ||| 0x02 := by
  decide

/-! ### The 8-bit subtractor (R131) -/

theorem toNat_boolNot (b : Bool) : (!b).toNat = 1 - b.toNat := by cases b <;> rfl

section Subtractor

variable (a b : Byte) (bin : Bool)

theorem toNat_sub8_res :
    (sub8 a b bin).res.toNat = (a.toNat + 512 - b.toNat - bin.toNat) % 256 := by
  have hb : b.toNat < 256 := b.isLt
  have hbin : bin.toNat < 2 := bin.toNat_lt
  have hres : (sub8 a b bin).res.toNat = (a.toNat + (~~~b).toNat + (!bin).toNat) % 256 :=
    toNat_add8_res a (~~~b) (!bin)
  rw [hres, BitVec.toNat_not, toNat_boolNot]
  omega

theorem sub8_cy_iff : (sub8 a b bin).cy = true ↔ a.toNat < b.toNat + bin.toNat := by
  have hb : b.toNat < 256 := b.isLt
  have hbin : bin.toNat < 2 := bin.toNat_lt
  have hcy : (sub8 a b bin).cy = !(add8 a (~~~b) (!bin)).cy := rfl
  rw [hcy, Bool.not_eq_true', ← Bool.not_eq_true, add8_cy_iff, BitVec.toNat_not, toNat_boolNot]
  omega

theorem sub8_ac_iff :
    (sub8 a b bin).ac = true ↔ a.toNat % 16 ≥ b.toNat % 16 + bin.toNat := by
  have hb : b.toNat < 256 := b.isLt
  have hbin : bin.toNat < 2 := bin.toNat_lt
  have hac : (sub8 a b bin).ac = (add8 a (~~~b) (!bin)).ac := rfl
  rw [hac, add8_ac_iff, BitVec.toNat_not, toNat_boolNot]
  omega

/-- With no borrow the result is the difference. -/
theorem sub8_res_no_borrow : (sub8 a b false).res = a - b := by
  have hb : b.toNat < 256 := b.isLt
  apply BitVec.eq_of_toNat_eq
  rw [toNat_sub8_res, BitVec.toNat_sub, Bool.toNat_false]
  omega

end Subtractor

/-- SUB and SBB are one subtraction; the borrow-in of SUB is 0 (R136, R138). -/
theorem aluEffect_sub (withCy : Bool) (v : Byte) (s : State) :
    aluEffect (if withCy then .sbb else .sub) v s
      = setAluResult (sub8 (s.reg .A) v (withCy && s.flags.cy)) s := by
  cases withCy <;> rfl

/-- CMP sets the flags of the subtraction (R167). -/
theorem aluEffect_cmp (v : Byte) (s : State) :
    aluEffect .cmp v s = s.withFlags (resultFlags (s.reg .A - v)
      (sub8 (s.reg .A) v false).cy (sub8 (s.reg .A) v false).ac) := by
  rw [← sub8_res_no_borrow]
  rfl

/-! ### DCR (R142, R143) -/

@[simp] theorem szpOf_decFlags (old v : Byte) (f : Flags) : szpOf (decFlags old v f) v :=
  szpOf_setSZP v f

@[simp] theorem decFlags_cy (old v : Byte) (f : Flags) : (decFlags old v f).cy = f.cy := rfl

@[simp] theorem decFlags_ac_iff (old v : Byte) (f : Flags) :
    (decFlags old v f).ac = true ↔ old.toNat % 16 ≠ 0 :=
  bne_iff_ne.trans (lowNibble_eq_zero_iff old).not

theorem exec_dcrM (s : State) : exec .dcrM s = decOperand .M s := exec_dcr .M s

theorem decOperand_reg (r : Reg) (s : State) :
    decOperand (.reg r) s = .next (((s.setReg r (s.reg r - 1)).withFlags
      (decFlags (s.reg r) (s.reg r - 1) s.flags)).advance 1) := rfl

/-- DCR M where both accesses succeed: memory as the write leaves it, then the flags (R143). -/
theorem decOperand_mem {s : State} {v : Byte} (hv : memRead s (s.pair .HL) = .ok v)
    (hs : Storable s (s.pair .HL)) :
    ∃ m : Memory, (∀ q, m.read q = storedByte s [(s.pair .HL, v - 1)] q) ∧
      decOperand .M s
        = .next (((s.withMem m).withFlags (decFlags v (v - 1) s.flags)).advance 1) := by
  obtain ⟨t, ht⟩ := memWrite_of_storable hs (v - 1)
  obtain ⟨m, rfl, -, hm⟩ := memWrite_ok ht
  exact ⟨m, hm, by
    simp only [decOperand, readOperand, writeOperand, hv, ht, attempt_ok, flags_withMem]⟩

/-! ### The logical operations (R160 to R166) -/

section LogicResult

variable (res : Byte) (ac : Bool) (s : State)

@[simp] theorem reg_A_setLogicResult : (setLogicResult res ac s).reg .A = res := rfl

@[simp] theorem flags_setLogicResult :
    (setLogicResult res ac s).flags = resultFlags res false ac := rfl

@[simp] theorem pc_setLogicResult : (setLogicResult res ac s).pc = s.pc := rfl

@[simp] theorem quietBut_setLogicResult : quietBut [.A] s (setLogicResult res ac s) :=
  quietBut_setReg s .A res

end LogicResult

@[simp] theorem resultFlags_ac (v : Byte) (cy ac : Bool) : (resultFlags v cy ac).ac = ac := rfl

section LogicOperation

/-- The result of AND, OR or XOR. -/
def logicRes : AluOp → Byte → Byte → Byte
  | .ana, a, v => a &&& v
  | .ora, a, v => a ||| v
  | _, a, v => a ^^^ v

/-- AC after AND, OR or XOR (R160). -/
def logicAcAfter (op : AluOp) (p : LogicAcPolicy) (a v : Byte) (old : Bool) : Bool :=
  if op = .ana then andAc p a v old else orAc p old

variable {op : AluOp} (h : op = .ana ∨ op = .ora ∨ op = .xra)

include h in
theorem aluEffect_logic (v : Byte) (s : State) :
    aluEffect op v s = setLogicResult (logicRes op (s.reg .A) v)
      (logicAcAfter op s.cfg.logicAc (s.reg .A) v s.flags.ac) s := by
  rcases h with rfl | rfl | rfl <;> rfl

include h in
theorem getLsbD_logicRes (a v : Byte) (k : Nat) :
    (logicRes op a v).getLsbD k
      = if op = .ana then a.getLsbD k && v.getLsbD k
        else if op = .ora then a.getLsbD k || v.getLsbD k else a.getLsbD k ^^ v.getLsbD k := by
  rcases h with rfl | rfl | rfl <;> simp [logicRes]

theorem logicAcAfter_i8080 (op : AluOp) (a v : Byte) (old : Bool) :
    logicAcAfter op .i8080 a v old
      = (decide (op = .ana) && (a.getLsbD 3 || v.getLsbD 3)) := by
  by_cases h : op = .ana <;> simp [logicAcAfter, andAc, orAc, h]

theorem logicAcAfter_clear (op : AluOp) (a v : Byte) (old : Bool) :
    logicAcAfter op .clear a v old = false := ite_self false

theorem logicAcAfter_unchanged (op : AluOp) (a v : Byte) (old : Bool) :
    logicAcAfter op .unchanged a v old = old := ite_self old

end LogicOperation

/-! ### The rotates (R169 to R172) -/

/-- The bits of A moved one place up, with `b` below them (RLC, RAL). -/
def shiftedUp (a : Byte) (b : Bool) : Byte := a.extractLsb' 0 7 ++ BitVec.ofBool b

/-- The bits of A moved one place down, with `b` above them (RRC, RAR). -/
def shiftedDown (a : Byte) (b : Bool) : Byte := BitVec.ofBool b ++ a.extractLsb' 1 7

theorem getLsbD_shiftedUp_succ (a : Byte) (b : Bool) {k : Nat} (hk : k < 7) :
    (shiftedUp a b).getLsbD (k + 1) = a.getLsbD k := by
  rw [shiftedUp, BitVec.getLsbD_append]
  simp [hk]

theorem getLsbD_shiftedUp_zero (a : Byte) (b : Bool) : (shiftedUp a b).getLsbD 0 = b := by
  rw [shiftedUp, BitVec.getLsbD_append]
  simp

theorem getLsbD_shiftedDown (a : Byte) (b : Bool) {k : Nat} (hk : k < 7) :
    (shiftedDown a b).getLsbD k = a.getLsbD (k + 1) := by
  rw [shiftedDown, BitVec.getLsbD_append]
  simp [hk, Nat.add_comm]

theorem getLsbD_shiftedDown_top (a : Byte) (b : Bool) : (shiftedDown a b).getLsbD 7 = b := by
  rw [shiftedDown, BitVec.getLsbD_append]
  simp

theorem exec_rlc (s : State) : exec .rlc s = .next ((setRotated
    (shiftedUp (s.reg .A) ((s.reg .A).getLsbD 7)) ((s.reg .A).getLsbD 7) s).advance 1) := rfl

theorem exec_rrc (s : State) : exec .rrc s = .next ((setRotated
    (shiftedDown (s.reg .A) ((s.reg .A).getLsbD 0)) ((s.reg .A).getLsbD 0) s).advance 1) := rfl

theorem exec_ral (s : State) : exec .ral s = .next ((setRotated
    (shiftedUp (s.reg .A) s.flags.cy) ((s.reg .A).getLsbD 7) s).advance 1) := rfl

theorem exec_rar (s : State) : exec .rar s = .next ((setRotated
    (shiftedDown (s.reg .A) s.flags.cy) ((s.reg .A).getLsbD 0) s).advance 1) := rfl

section Rotated

variable (res : Byte) (cy : Bool) (s : State)

@[simp] theorem pc_setRotated : (setRotated res cy s).pc = s.pc := rfl

@[simp] theorem quietBut_setRotated : quietBut [.A] s (setRotated res cy s) :=
  quietBut_setReg s .A res

end Rotated

/-! ### DAA (R176) -/

theorem toNat_highNibble (v : Byte) : (v.extractLsb' 4 4).toNat = v.toNat / 16 := by
  have hv : v.toNat < 256 := v.isLt
  simp only [BitVec.extractLsb'_toNat, Nat.shiftRight_eq_div_pow]
  omega

/-- What the first step of DAA adds. -/
def daaFirst (a : Byte) (ac : Bool) : Nat := if a.toNat % 16 > 9 ∨ ac = true then 6 else 0

/-- What the second step of DAA adds. -/
def daaSecond (a : Byte) (ac cy : Bool) : Nat :=
  if (a.toNat + daaFirst a ac) / 16 > 9 ∨ cy = true then 0x60 else 0

theorem daaLow_iff (a : Byte) (ac : Bool) :
    daaLow a ac = true ↔ a.toNat % 16 > 9 ∨ ac = true := by
  simp only [daaLow, toNat_lowNibble, Bool.or_eq_true, decide_eq_true_eq]

/-- The high part is above 9 after the first step, which carries into it only when the low nibble
exceeds 9. -/
theorem daaHigh_iff (a : Byte) (ac cy : Bool) :
    daaHigh a cy = true ↔ (a.toNat + daaFirst a ac) / 16 > 9 ∨ cy = true := by
  simp only [daaHigh, daaFirst, toNat_lowNibble, toNat_highNibble, Bool.or_eq_true,
    Bool.and_eq_true, decide_eq_true_eq]
  cases cy with
  | true => simp
  | false =>
    simp only [Bool.false_eq_true, or_false]
    split <;> omega

theorem toNat_daaCorrection (a : Byte) (ac cy : Bool) :
    (daaCorrection a ac cy).toNat = daaFirst a ac + daaSecond a ac cy := by
  simp only [daaCorrection, daaSecond, daaFirst, daaLow_iff, daaHigh_iff a ac cy]
  split <;> split <;> rfl

/-- The sum of DAA in natural numbers, after both steps. -/
def daaSum (a : Byte) (ac cy : Bool) : Nat := a.toNat + daaFirst a ac + daaSecond a ac cy

theorem toNat_daa_res (a : Byte) (ac cy : Bool) :
    (add8 a (daaCorrection a ac cy) false).res.toNat = daaSum a ac cy % 256 := by
  rw [toNat_add8_res, toNat_daaCorrection, Bool.toNat_false, daaSum, Nat.add_zero, Nat.add_assoc]

/-- The second step carries out of bit 7 exactly when it adds, unless CY was set already. -/
theorem daa_cy_iff (a : Byte) (ac cy : Bool) :
    (cy || daaHigh a cy) = true ↔ cy = true ∨ daaSum a ac cy > 255 := by
  rw [Bool.or_eq_true, daaHigh_iff a ac cy, daaSum, daaSecond]
  cases cy with
  | true => simp
  | false =>
    simp only [Bool.false_eq_true, or_false, false_or]
    split <;> omega

/-- The correction carries out of bit 3 when the first step does; the second adds nothing below
bit 4. -/
theorem daa_ac_iff (a : Byte) (ac cy : Bool) :
    (add8 a (daaCorrection a ac cy) false).ac = true ↔ a.toNat % 16 + daaFirst a ac > 15 := by
  have hlow : (daaFirst a ac + daaSecond a ac cy) % 16 = daaFirst a ac := by
    unfold daaFirst daaSecond
    split <;> split <;> rfl
  rw [add8_ac_iff, toNat_daaCorrection, hlow, Bool.toNat_false, Nat.add_zero]

theorem exec_daa (s : State) : exec .daa s = .next ((decimalAdjust s).advance 1) := rfl

/-- What DAA takes from the adder. -/
def daaOut (s : State) : AluOut :=
  add8 (s.reg .A) (daaCorrection (s.reg .A) s.flags.ac s.flags.cy) false

theorem decimalAdjust_eq (s : State) : decimalAdjust s = setAluResult
    { daaOut s with cy := s.flags.cy || daaHigh (s.reg .A) s.flags.cy } s := rfl

end Sys2Proof.Machine

namespace Sys2Proof.Proofs

open Sys2Proof.Machine

/-- Settles O24: the layout bit by bit, and packing and unpacking one after the other. -/
theorem flagByteLayout : Obligations.FlagByteLayout := by
  unfold Obligations.FlagByteLayout
  refine ⟨fun f => ?_, fun b => ⟨rfl, rfl, rfl, rfl, rfl, flagsToByte_flagsOfByte b⟩⟩
  obtain ⟨hs, hz, h5, hac, h3, hp, h1, hcy⟩ := getLsbD_flagsToByte f
  exact ⟨hs, hz, h5, hac, h3, hp, h1, hcy, flagsOfByte_flagsToByte f⟩

/-- Settles O27: the adder on the complement and the inverted borrow. -/
theorem subtractorIsBorrow : Obligations.SubtractorIsBorrow := by
  unfold Obligations.SubtractorIsBorrow
  exact fun a b bin => ⟨toNat_sub8_res a b bin, sub8_cy_iff a b bin, sub8_ac_iff a b bin⟩

/-- Settles O37: every form puts the subtractor's result into A (`exec_alu_of_value`,
`aluEffect_sub`). -/
theorem subResults : Obligations.SubResults := by
  unfold Obligations.SubResults
  intro s v withCy i len hi
  rw [exec_alu_of_value hi, aluEffect_sub, completes_next]
  exact ⟨toNat_sub8_res _ _ _, sub8_cy_iff _ _ _, sub8_ac_iff _ _ _, by simp, by simp, by simp⟩

/-- Settles O39: the operand is written, then the flags are those of what was written, but for AC,
which the old value gives. -/
theorem dcrResults : Obligations.DcrResults := by
  unfold Obligations.DcrResults
  refine fun s => ⟨fun r => ?register, fun v hv hs => ?memory⟩
  case register =>
    rw [exec_dcr, decOperand_reg, completes_next]
    exact ⟨by simp [BitVec.toNat_sub, Nat.add_comm], by simp, by simp, by simp, by simp, by simp⟩
  case memory =>
    obtain ⟨m, hm, hdec⟩ := decOperand_mem hv hs
    rw [exec_dcrM, hdec, completes_next]
    exact ⟨hm, by simp, by simp, by simp, storeFrame_withMem_withFlags s m _ 1, by simp⟩

/-- Settles O42: the three operations are one write of A and all flags (`aluEffect_logic`), with
the bits and the AC of each. -/
theorem logicResults : Obligations.LogicResults := by
  unfold Obligations.LogicResults
  intro s v op i len hi hop
  rw [exec_alu_of_value hi, aluEffect_logic hop, completes_next]
  exact ⟨getLsbD_logicRes hop _ _, by simp, rfl, fun hp => by simp [hp, logicAcAfter_i8080],
    fun hp => by simp [hp, logicAcAfter_clear], fun hp => by simp [hp, logicAcAfter_unchanged],
    by simp, by simp⟩

/-- Settles O43: CMP sets the flags of the subtraction and writes nothing else
(`aluEffect_cmp`). -/
theorem compareResults : Obligations.CompareResults := by
  unfold Obligations.CompareResults
  intro s v i len hi
  rw [exec_alu_of_value (op := .cmp) hi, aluEffect_cmp, completes_next]
  exact ⟨beq_iff_eq.trans sub_eq_zero, sub8_cy_iff _ _ _, sub8_ac_iff _ _ _, by simp, by simp,
    by simp⟩

/-- Settles O44: A is shifted up or down by one place, with the linked bit at the free end. -/
theorem rotateResults : Obligations.RotateResults := by
  unfold Obligations.RotateResults
  intro s i hi
  rcases hi with rfl | rfl | rfl | rfl
  · rw [exec_rlc, completes_next]
    exact ⟨fun _ => ⟨fun _ => getLsbD_shiftedUp_succ _ _, getLsbD_shiftedUp_zero _ _, rfl⟩,
      nofun, nofun, nofun, rfl, rfl, rfl, rfl, by simp, by simp⟩
  · rw [exec_rrc, completes_next]
    exact ⟨nofun, fun _ => ⟨fun _ => getLsbD_shiftedDown _ _, getLsbD_shiftedDown_top _ _, rfl⟩,
      nofun, nofun, rfl, rfl, rfl, rfl, by simp, by simp⟩
  · rw [exec_ral, completes_next]
    exact ⟨nofun, nofun,
      fun _ => ⟨fun _ => getLsbD_shiftedUp_succ _ _, getLsbD_shiftedUp_zero _ _, rfl⟩,
      nofun, rfl, rfl, rfl, rfl, by simp, by simp⟩
  · rw [exec_rar, completes_next]
    exact ⟨nofun, nofun, nofun,
      fun _ => ⟨fun _ => getLsbD_shiftedDown _ _, getLsbD_shiftedDown_top _ _, rfl⟩,
      rfl, rfl, rfl, rfl, by simp, by simp⟩

/-- Settles O46: the one correction is the sum of the two steps (`toNat_daaCorrection`), so A, CY
and AC are those of the two-step sum. -/
theorem daaTwoStep : Obligations.DaaTwoStep := by
  unfold Obligations.DaaTwoStep
  rintro s low first second rfl rfl rfl
  rw [exec_daa, decimalAdjust_eq, completes_next]
  exact ⟨toNat_daa_res _ _ _, daa_cy_iff _ _ _, daa_ac_iff _ _ _, by simp, by simp, by simp⟩

end Sys2Proof.Proofs
end

section
/-!
PROOFS. The family of 40_data_transfer.md: the results of each instruction (R102 to R116).

A load or a store is one read or write and the advance of `pc` (`completes_loadReg`,
`completes_storeByte`); the two-byte forms go by `readWord_of_bytes` and `writeWord_of_storable`. A
register or pair write leaves the frame of its update (`quietBut_setReg`, `quietBut_setPair`).
-/

namespace Sys2Proof.Machine

/-! ### Frames -/

section Frames

variable {s t u : State} {ds ds' : List Reg}

theorem quietBut.trans (h : quietBut ds s t) (h' : quietBut ds' t u) :
    quietBut (ds ++ ds') s u := by
  obtain ⟨hreg, hsp, hmem, hie, hhalted, hcfg, hhost⟩ := h
  obtain ⟨hreg', hsp', hmem', hie', hhalted', hcfg', hhost'⟩ := h'
  refine ⟨fun r hr => ?_, hsp'.trans hsp, fun q => (hmem' q).trans (hmem q), hie'.trans hie,
    hhalted'.trans hhalted, hcfg'.trans hcfg, hhost'.trans hhost⟩
  rw [List.mem_append, not_or] at hr
  exact (hreg' r hr.2).trans (hreg r hr.1)

theorem quietBut.mono (h : quietBut ds s t) (hds : ds ⊆ ds') : quietBut ds' s t := by
  obtain ⟨hreg, hrest⟩ := h
  exact ⟨fun r hr => hreg r fun hr' => hr (hds hr'), hrest⟩

theorem storeFrame_withMem (s : State) (m : Memory) (n : Word) :
    storeFrame s ((s.withMem m).advance n) :=
  ⟨fun _ => rfl, rfl, rfl, rfl, rfl, rfl, rfl⟩

end Frames

/-! ### One-byte loads and stores -/

section OneByte

variable {s : State} {a : Word} {v : Byte}

/-- A load puts the byte into the register and changes nothing else (R103, R108, R112). -/
theorem completes_loadReg (h : memRead s a = .ok v) (d : Reg) (len : Word) :
    Completes (loadReg d a len s) fun t =>
      t.reg d = v ∧ quietBut [d] s t ∧ t.flags = s.flags ∧ t.pc = s.pc + len := by
  rw [loadReg, h, attempt_ok, completes_next]
  exact ⟨by simp, by simp, rfl, rfl⟩

/-- A store leaves memory as the one write does and changes nothing else (R104, R106, R109,
R113). -/
theorem completes_storeByte (h : Storable s a) (v : Byte) (len : Word) :
    Completes (storeByte a v len s) fun t =>
      memoryAfter s t [(a, v)] ∧ storeFrame s t ∧ t.pc = s.pc + len := by
  obtain ⟨t, ht⟩ := memWrite_of_storable h v
  obtain ⟨m, rfl, -, hm⟩ := memWrite_ok ht
  rw [storeByte, ht, attempt_ok, completes_next]
  exact ⟨hm, storeFrame_withMem s m len, rfl⟩

end OneByte

/-! ### The exchanges -/

theorem exec_xchg (s : State) : exec .xchg s = .next ((exchangeDeHl s).advance 1) := rfl

theorem exec_sphl (s : State) : exec .sphl s = .next ((s.withSp (s.pair .HL)).advance 1) := rfl

theorem quietBut_exchangeDeHl (s : State) : quietBut [.D, .E, .H, .L] s (exchangeDeHl s) :=
  ((quietBut_setPair s .HL (s.pair .DE)).trans (quietBut_setPair _ .DE (s.pair .HL))).mono
    (by decide)

/-- XTHL where both reads and both writes succeed (R116). -/
theorem exchangeStackTop_of_bytes {s : State} {lo hi : Byte} (hl : memRead s s.sp = .ok lo)
    (hh : memRead s (s.sp + 1) = .ok hi) (h : Storable s s.sp) (h' : Storable s (s.sp + 1)) :
    ∃ m : Memory,
      (∀ q, m.read q = storedByte s [(s.sp + 1, s.reg .H), (s.sp, s.reg .L)] q) ∧
      exchangeStackTop s = .ok ((s.withMem m).setPair .HL (joinBytes hi lo)) := by
  obtain ⟨t, ht⟩ := writeWord_of_storable h h' (s.pair .HL)
  obtain ⟨m, rfl, -, hm⟩ := writeWord_ok ht
  rw [hiByte_pair, loByte_pair] at hm
  exact ⟨m, hm, by simp only [exchangeStackTop, readWord_of_bytes hl hh, ht]⟩

end Sys2Proof.Machine

namespace Sys2Proof.Proofs

open Sys2Proof.Machine

/-- Settles O28: MOV r1,r2 is one register write. -/
theorem movRegister : Obligations.MovRegister := by
  unfold Obligations.MovRegister
  intro d r s
  rw [exec_movRR, moveReg, completes_next]
  exact ⟨by simp, by simp, rfl, rfl⟩

/-- Settles O29: the three instructions are one load each, at their address. -/
theorem byteLoads : Obligations.ByteLoads := by
  unfold Obligations.ByteLoads
  refine fun s v => ⟨fun d h => ?movRM, fun a16 h => ?lda, fun p h => ?ldax⟩
  case movRM => exact exec_movRM d s ▸ completes_loadReg h d 1
  case lda => exact completes_loadReg h .A 3
  case ldax => exact exec_ldax p s ▸ completes_loadReg h .A 1

/-- Settles O30: the four instructions are one store each, at their address. -/
theorem byteStores : Obligations.ByteStores := by
  unfold Obligations.ByteStores
  refine fun s => ⟨fun r h => ?movMR, fun d8 h => ?mviM, fun a16 h => ?sta, fun p h => ?stax⟩
  case movMR => exact exec_movMR r s ▸ completes_storeByte h (s.reg r) 1
  case mviM => exact completes_storeByte h d8 2
  case sta => exact completes_storeByte h (s.reg .A) 3
  case stax => exact exec_stax p s ▸ completes_storeByte h (s.reg .A) 1

/-- Settles O31: the immediate is written to the register, the pair or `sp`. -/
theorem immediateLoads : Obligations.ImmediateLoads := by
  unfold Obligations.ImmediateLoads
  refine fun s => ⟨fun d d8 => ?mvi, fun p d16 => ?lxiPair, fun d16 => ?lxiSp⟩
  case mvi =>
    rw [exec_mviR, moveImm, completes_next]
    exact ⟨by simp, by simp, rfl, rfl⟩
  case lxiPair =>
    rw [exec_lxi, loadPairImm, setPairSp_pair, completes_next]
    exact ⟨by simp, by simp, by simp, rfl, rfl⟩
  case lxiSp =>
    rw [exec_lxi, loadPairImm, setPairSp_SP, completes_next]
    exact ⟨rfl, quietBut_withSp s d16 3, rfl, rfl⟩

/-- Settles O32: LHLD reads the 16-bit value at the address into HL, SHLD writes HL there. -/
theorem hlDirectTransfers : Obligations.HlDirectTransfers := by
  unfold Obligations.HlDirectTransfers
  refine fun s a16 => ⟨fun lo hi hl hh => ?lhld, fun h h' => ?shld⟩
  case lhld =>
    rw [exec_lhld, readWord_of_bytes hl hh, attempt_ok, completes_next]
    exact ⟨loByte_joinBytes hi lo, hiByte_joinBytes hi lo, quietBut_setPair s .HL _, rfl, rfl⟩
  case shld =>
    obtain ⟨t, ht⟩ := writeWord_of_storable h h' (s.pair .HL)
    obtain ⟨m, rfl, -, hm⟩ := writeWord_ok ht
    rw [hiByte_pair, loByte_pair] at hm
    rw [exec_shld, ht, attempt_ok, completes_next]
    exact ⟨hm, storeFrame_withMem s m 3, rfl⟩

/-- Settles O33: XCHG writes both pairs, each with the other's old value; SPHL writes `sp`. -/
theorem xchgAndSphl : Obligations.XchgAndSphl := by
  unfold Obligations.XchgAndSphl
  refine fun s => ⟨?xchg, ?sphl⟩
  case xchg =>
    rw [exec_xchg, completes_next]
    exact ⟨hiByte_pair s .HL, loByte_pair s .HL, hiByte_pair s .DE, loByte_pair s .DE,
      quietBut_exchangeDeHl s, rfl, rfl⟩
  case sphl =>
    rw [exec_sphl, completes_next]
    exact ⟨rfl, quietBut_withSp s _ 1, rfl, rfl⟩

/-- Settles O34: both bytes are read before the old HL is written over them
(`exchangeStackTop_of_bytes`). -/
theorem xthlExchangesStackTop : Obligations.XthlExchangesStackTop := by
  unfold Obligations.XthlExchangesStackTop
  intro s lo hi hl hh h h'
  obtain ⟨m, hm, hx⟩ := exchangeStackTop_of_bytes hl hh h h'
  rw [exec_xthl, hx, attempt_ok, completes_next]
  obtain ⟨hreg, -⟩ := quietBut_setPair (s.withMem m) .HL (joinBytes hi lo)
  exact ⟨loByte_joinBytes hi lo, hiByte_joinBytes hi lo, hreg, hm, rfl, rfl, rfl, rfl, rfl, rfl,
    rfl⟩

end Sys2Proof.Proofs
end

section
/-!
PROOFS. The family of 43_stack_control.md: PUSH PSW and POP PSW (R193, R195), the jumps (R196, R197,
R203), calls (R198, R199), returns (R200, R201) and restarts (R202); and the return from an
interrupt (R249).

A conditional form is the unconditional one when its condition holds, and an advance of `pc`
otherwise (`callIf_taken`, `callIf_not_taken`, ...). Calls and restarts share `completes_callTo`,
returns `returnSub_of_bytes`.
-/

namespace Sys2Proof.Machine

theorem toNat_joinBytes (hi lo : Byte) : (joinBytes hi lo).toNat = 256 * hi.toNat + lo.toNat := by
  have h : (joinBytes hi lo).toNat = hi.toNat <<< 8 ||| lo.toNat := BitVec.toNat_append hi lo
  rw [h, ← Nat.shiftLeft_add_eq_or_of_lt lo.isLt, Nat.shiftLeft_eq, Nat.mul_comm]

/-! ### PSW -/

theorem exec_pushPsw (s : State) : exec .pushPsw s = pushPair .PSW s := rfl

theorem exec_popPsw (s : State) : exec .popPsw s = popPair .PSW s := rfl

/-- PSW is A above the flag byte (R193). -/
theorem pairPsw_PSW (s : State) :
    s.pairPsw .PSW = joinBytes (s.reg .A) (flagsToByte s.flags) := rfl

theorem setPairPsw_PSW (s : State) (hi lo : Byte) :
    s.setPairPsw .PSW (joinBytes hi lo) = (s.setReg .A hi).withFlags (flagsOfByte lo) := by
  rw [State.setPairPsw, hiByte_joinBytes, loByte_joinBytes]

/-! ### Conditions -/

section Conditional

variable {c : Cond} {s : State}

theorem condHolds_of_not_condTrue (h : ¬ condTrue c s.flags) : condHolds c s.flags = false := by
  rwa [← condHolds_iff, Bool.not_eq_true] at h

theorem jumpIf_taken (h : condTrue c s.flags) (a16 : Word) :
    jumpIf c a16 s = .next (s.withPc a16) := by
  rw [jumpIf, if_pos ((condHolds_iff c s.flags).mpr h)]

theorem jumpIf_not_taken (h : ¬ condTrue c s.flags) (a16 : Word) :
    jumpIf c a16 s = .next (s.advance 3) := by
  simp [jumpIf, condHolds_of_not_condTrue h]

theorem callIf_taken (h : condTrue c s.flags) (a16 : Word) : callIf c a16 s = callSub a16 s := by
  rw [callIf, if_pos ((condHolds_iff c s.flags).mpr h)]

theorem callIf_not_taken (h : ¬ condTrue c s.flags) (a16 : Word) :
    callIf c a16 s = .next (s.advance 3) := by
  simp [callIf, condHolds_of_not_condTrue h]

theorem returnIf_taken (h : condTrue c s.flags) : returnIf c s = returnSub s := by
  rw [returnIf, if_pos ((condHolds_iff c s.flags).mpr h)]

theorem returnIf_not_taken (h : ¬ condTrue c s.flags) : returnIf c s = .next (s.advance 1) := by
  simp [returnIf, condHolds_of_not_condTrue h]

end Conditional

/-! ### Jumps, calls, returns -/

theorem exec_jmp (a16 : Word) (s : State) : exec (.jmp a16) s = .next (s.withPc a16) := rfl

theorem exec_pchl (s : State) : exec .pchl s = .next (s.withPc (s.pair .HL)) := rfl

theorem exec_call (a16 : Word) (s : State) : exec (.call a16) s = callSub a16 s := rfl

theorem exec_ret (s : State) : exec .ret s = returnSub s := rfl

/-- A jump changes `pc` alone. -/
theorem quietBut_withPc (ds : List Reg) (s : State) (v : Word) : quietBut ds s (s.withPc v) :=
  quietBut_refl ds s

section CallReturn

variable {s : State}

/-- The call where both writes succeed: it pushes the return address and goes to the target (R198,
R202). -/
theorem completes_callTo (h : Storable s (s.sp - 1)) (h' : Storable s (s.sp - 2))
    (ret target : Word) :
    Completes (attempt (callTo s ret target) fun t => .next t) fun t =>
      t.pc = target ∧ t.sp = s.sp - 2 ∧
      memoryAfter s t [(s.sp - 2, loByte ret), (s.sp - 1, hiByte ret)] ∧ stackFrame s t := by
  obtain ⟨t, ht⟩ := callTo_of_storable h h' ret target
  obtain ⟨m, rfl, -, hm⟩ := callTo_ok ht
  rw [ht, attempt_ok, completes_next]
  exact ⟨rfl, rfl, hm, fun _ => rfl, rfl, rfl, rfl, rfl, rfl⟩

/-- The return where both reads succeed (R200). -/
theorem returnSub_of_bytes {lo hi : Byte} (hl : memRead s s.sp = .ok lo)
    (hh : memRead s (s.sp + 1) = .ok hi) :
    returnSub s = .next ((s.withSp (s.sp + 2)).withPc (joinBytes hi lo)) := by
  rw [returnSub, returnFrom, pop16_of_bytes hl hh, attempt_ok]

theorem popFrame_withSp_withPc (s : State) (v w : Word) :
    popFrame [] s ((s.withSp v).withPc w) :=
  popFrame_of_quietBut_withSp (quietBut_withPc [] (s.withSp v) w)

theorem toNat_vectorAddress (n : Fin 8) : (vectorAddress n).toNat = 8 * n.val := by
  rw [vectorAddress, BitVec.toNat_ofNat]
  omega

end CallReturn

/-! ### The return from an interrupt (R249) -/

/-- After two writes to different writable bytes both read as written. -/
theorem memRead_of_storedByte {s : State} {m : Memory} {a b : Word} {v w : Byte} {p q : Nat}
    (hm : ∀ k, m.read k = storedByte s [(b, w), (a, v)] k)
    (ha : phys s.cfg a = .ok p) (hb : phys s.cfg b = .ok q) (hpq : p ≠ q)
    (hwp : AddrRange.contains s.cfg.writable p = true)
    (hwq : AddrRange.contains s.cfg.writable q = true) :
    memRead (s.withMem m) a = .ok v ∧ memRead (s.withMem m) b = .ok w := by
  refine ⟨?first, ?second⟩
  case first =>
    rw [memRead_of_phys (s := s.withMem m) ha, mem_withMem, hm]
    simp [storedByte, ha, hb, hpq.symm, hwp]
  case second =>
    rw [memRead_of_phys (s := s.withMem m) hb, mem_withMem, hm]
    simp [storedByte, hb, hwq]

/-- An interrupt entry whose two writes go to different writable bytes leaves the old `pc` on top of
the stack, low byte first. -/
theorem takeInterrupt_stackTop {s u : State} {n : Fin 8} {p q : Nat}
    (hu : takeInterrupt s n = .ok u) (hp : phys s.cfg (s.sp - 1) = .ok p)
    (hq : phys s.cfg (s.sp - 2) = .ok q) (hpq : p ≠ q)
    (hwp : AddrRange.contains s.cfg.writable p = true)
    (hwq : AddrRange.contains s.cfg.writable q = true) :
    memRead u u.sp = .ok (loByte s.pc) ∧ memRead u (u.sp + 1) = .ok (hiByte s.pc) := by
  obtain ⟨m, rfl, -, hm⟩ := takeInterrupt_ok hu
  obtain ⟨hhi, hlo⟩ := memRead_of_storedByte hm hp hq hpq hwp hwq
  have hsp : s.sp - 2 + 1 = s.sp - 1 := by bv_omega
  exact ⟨hlo, (congrArg (memRead (s.withMem m)) hsp).trans hhi⟩

end Sys2Proof.Machine

namespace Sys2Proof.Proofs

open Sys2Proof.Machine

/-- Settles O49: PUSH and POP of the 16-bit value with A above the flag byte. -/
theorem pswPushAndPop : Obligations.PswPushAndPop := by
  unfold Obligations.PswPushAndPop
  refine fun s => ⟨fun h h' => ?push, fun lo hi hl hh => ?pop⟩
  case push =>
    obtain ⟨m, hm, hpush⟩ := pushPair_of_storable h h' .PSW
    rw [pairPsw_PSW, loByte_joinBytes, hiByte_joinBytes] at hm
    rw [exec_pushPsw, hpush, completes_next]
    exact ⟨hm, rfl, stackFrame_withMem_withSp s m _ 1, rfl⟩
  case pop =>
    rw [exec_popPsw, popPair_of_bytes hl hh, setPairPsw_PSW, completes_next]
    have hquiet := quietBut_setReg (s.withSp (s.sp + 2)) .A hi
    exact ⟨by simp, rfl, rfl, rfl, rfl, rfl, rfl, popFrame_of_quietBut_withSp hquiet, rfl⟩

/-- Settles O50: each jump writes `pc` alone, by its condition. -/
theorem jumps : Obligations.Jumps := by
  unfold Obligations.Jumps
  refine fun s => ⟨fun a16 => ?jmp, fun c a16 => ?jcc, ?pchl⟩
  case jmp =>
    rw [exec_jmp, completes_next]
    exact ⟨rfl, quietBut_withPc [] s a16, rfl⟩
  case jcc =>
    rw [exec_jcc]
    by_cases hc : condTrue c s.flags
    · rw [jumpIf_taken hc, completes_next]
      exact ⟨fun _ => rfl, fun hn => absurd hc hn, quietBut_withPc [] s a16, rfl⟩
    · rw [jumpIf_not_taken hc, completes_next]
      exact ⟨fun h => absurd h hc, fun _ => rfl, by simp, rfl⟩
  case pchl =>
    rw [exec_pchl, completes_next]
    exact ⟨rfl, quietBut_withPc [] s _, rfl⟩

/-- Settles O51: CALL and a taken conditional call are `callSub`. -/
theorem calls : Obligations.Calls := by
  unfold Obligations.Calls
  refine fun s a16 c => ⟨fun i hi h h' => ?taken, fun hc => ?notTaken⟩
  case taken =>
    have hexec : exec i s = callSub a16 s := by
      rcases hi with rfl | ⟨rfl, hc⟩
      · exact exec_call a16 s
      · rw [exec_ccc, callIf_taken hc]
    rw [hexec]
    exact completes_callTo h h' (s.pc + 3) a16
  case notTaken =>
    rw [exec_ccc, callIf_not_taken hc, completes_next]
    exact ⟨rfl, by simp, rfl⟩

/-- Settles O52: RET and a taken conditional return are `returnSub`. -/
theorem returns : Obligations.Returns := by
  unfold Obligations.Returns
  refine fun s c => ⟨fun i lo hi hi' hl hh => ?taken, fun hc => ?notTaken⟩
  case taken =>
    have hexec : exec i s = returnSub s := by
      rcases hi' with rfl | ⟨rfl, hc⟩
      · exact exec_ret s
      · rw [exec_rcc, returnIf_taken hc]
    rw [hexec, returnSub_of_bytes hl hh, completes_next]
    exact ⟨toNat_joinBytes hi lo, rfl, popFrame_withSp_withPc s _ _, rfl⟩
  case notTaken =>
    rw [exec_rcc, returnIf_not_taken hc, completes_next]
    exact ⟨rfl, by simp, rfl⟩

/-- Settles O53: a restart is a call to its vector with the address after it. -/
theorem restarts : Obligations.Restarts := by
  unfold Obligations.Restarts
  intro s n h h'
  obtain ⟨t, ht, hpc, hrest⟩ := completes_callTo h h' (s.pc + 1) (vectorAddress n)
  exact ⟨t, (exec_rst n s).trans ht, by rw [hpc, toNat_vectorAddress], hrest⟩

/-- Settles O15: RET pops the `pc` that the entry left on top of the stack
(`takeInterrupt_stackTop`), and the entry changed `sp`, `pc`, IE and memory alone. -/
theorem interruptThenRetResumes : Obligations.InterruptThenRetResumes := by
  unfold Obligations.InterruptThenRetResumes
  intro s u n p q hu hp hq hpq hwp hwq
  obtain ⟨hlo, hhi⟩ := takeInterrupt_stackTop hu hp hq hpq hwp hwq
  rw [exec_ret, returnSub_of_bytes hlo hhi, joinBytes_hi_lo, completes_next]
  obtain ⟨m, rfl, -, -⟩ := takeInterrupt_ok hu
  exact ⟨rfl, BitVec.sub_add_cancel s.sp 2, fun _ => rfl, rfl, rfl⟩

end Sys2Proof.Proofs
end

section
/-!
PROOFS. The family of 44_io_interrupt_halt.md: the results of IN, OUT, EI, DI, HLT and NOP (R220 to
R225); and the register file by identifier (R20 to R22).
-/

namespace Sys2Proof.Machine

/-! ### I/O -/

/-- A port with no device reads 0 (R220). -/
theorem ioRead_of_not_mem {s : State} {p8 : Byte} (h : p8 ∉ s.cfg.inPorts) : ioRead s p8 = 0 := by
  simp [ioRead, h]

/-- A port with a device reads the next free byte (R220, log 5). -/
theorem ioRead_of_mem {s : State} {p8 : Byte} (h : p8 ∈ s.cfg.inPorts) :
    ioRead s p8 = Config.ioByte s.host.ioDraws p8 := by
  simp [ioRead, h]

/-- With the host's side put back, an executed IN has written A alone. -/
theorem quietBut_setReg_withHost (s : State) (r : Reg) (v : Byte) (h : HostSide) (n : Word) :
    quietBut [r] s ((((s.setReg r v).withHost h).advance n).withHost s.host) :=
  quietBut_setReg s r v

/-! ### The bytes of a 16-bit value, in numbers -/

theorem toNat_hiByte (w : Word) : (hiByte w).toNat = w.toNat / 256 := by
  have hw : w.toNat < 65536 := w.isLt
  rw [hiByte, BitVec.extractLsb'_toNat, Nat.shiftRight_eq_div_pow]
  omega

theorem toNat_loByte (w : Word) : (loByte w).toNat = w.toNat % 256 := by
  rw [loByte, BitVec.extractLsb'_toNat, Nat.shiftRight_zero]

end Sys2Proof.Machine

namespace Sys2Proof.Proofs

open Sys2Proof.Machine

/-- Settles O54: IN writes A and records the read, OUT records the write. -/
theorem inputAndOutput : Obligations.InputAndOutput := by
  unfold Obligations.InputAndOutput
  refine fun s p8 => ⟨?inp, ?out⟩
  case inp =>
    rw [exec_inp, completes_next]
    exact ⟨ioRead_of_not_mem, ioRead_of_mem, rfl, quietBut_setReg_withHost s .A _ _ 2, rfl, rfl⟩
  case out =>
    rw [exec_out, completes_next]
    exact ⟨rfl, quietBut_refl [] s, rfl, rfl⟩

/-- Settles O55: EI and DI write IE, HLT writes HALTED and not `pc`, NOP advances `pc`. -/
theorem enableHaltNop : Obligations.EnableHaltNop := by
  unfold Obligations.EnableHaltNop
  refine fun s => ⟨?ei, ?di, ?hlt, ?nop⟩
  case ei =>
    rw [exec_ei, completes_next]
    exact ⟨rfl, quietBut_refl [] s, rfl, rfl⟩
  case di =>
    rw [exec_di, completes_next]
    exact ⟨rfl, quietBut_refl [] s, rfl, rfl⟩
  case hlt =>
    rw [exec_hlt, completes_next]
    exact ⟨rfl, quietBut_refl [] s, rfl, rfl⟩
  case nop =>
    rw [exec_nop, completes_next]
    exact ⟨quietBut_refl [] s, rfl, rfl⟩

/-- Settles O60: each identifier names its register or pair, or the fault; a register write and a
pair write have the frames of their updates. -/
theorem registerFileIdentifiers : Obligations.RegisterFileIdentifiers := by
  unfold Obligations.RegisterFileIdentifiers
  intro s v w
  have hreg (r : Reg) : (s.setReg r v).reg r = v ∧ quietBut [r] s (s.setReg r v) ∧
      (s.setReg r v).flags = s.flags ∧ (s.setReg r v).pc = s.pc :=
    ⟨reg_setReg_same s r v, quietBut_setReg s r v, rfl, rfl⟩
  refine ⟨rfl, rfl, rfl, rfl, rfl, rfl, rfl, rfl, rfl, rfl, rfl, rfl, rfl, rfl, rfl, rfl, hreg,
    rfl, rfl, rfl, rfl, rfl, rfl, rfl, rfl, fun p hi lo hp => ?_⟩
  obtain ⟨rfl, rfl⟩ : hi = Pair.high p ∧ lo = Pair.low p := by
    fin_cases hp <;> exact ⟨rfl, rfl⟩
  refine ⟨toNat_joinBytes _ _, pair_setPair_same s p w, ?high, ?low, quietBut_setPair s p w, rfl,
    rfl⟩
  case high => rw [reg_setPair_high, toNat_hiByte]
  case low => rw [reg_setPair_low, toNat_loByte]

end Sys2Proof.Proofs
end

section
/-!
PROOFS. The faults of data accesses (R55, R56) in the order of R243: reads before writes, the first
byte before the second.

Every meaning that accesses memory attempts its accesses one after the other, so it ends in the
fault of the first that fails (`attempt_of_error`). `readWord_of_*`, `writeWord_of_*` and
`push16_of_*` say which of two accesses that is.
-/

namespace Sys2Proof.Machine

/-- An attempted operation that fails ends the step in its fault (R241). -/
theorem attempt_of_error {α : Type} {r : Except Fault α} {f : Fault} (h : r = .error f)
    (k : α → Result) : attempt r k = .fault f := by
  rw [h, attempt_error]

variable {s : State} {a : Word} {f : Fault}

/-! ### Which of two reads fails -/

theorem readWord_of_first_not_readable (h : ¬ Readable s a) :
    readWord s a = .error (.addressOutOfRange a) := by
  simp only [readWord, memRead_of_not_readable h]

theorem readWord_of_second_not_readable (h : Readable s a) (h' : ¬ Readable s (a + 1)) :
    readWord s a = .error (.addressOutOfRange (a + 1)) := by
  obtain ⟨p, hp⟩ := h
  simp only [readWord, memRead_of_phys hp, memRead_of_not_readable h']

theorem readWord_of_readable (h : Readable s a) (h' : Readable s (a + 1)) :
    ∃ v, readWord s a = .ok v := by
  obtain ⟨p, hp⟩ := h
  obtain ⟨q, hq⟩ := h'
  exact ⟨_, readWord_of_bytes (memRead_of_phys hp) (memRead_of_phys hq)⟩

/-! ### Which of two writes fails -/

theorem storeFaults_withMem (m : Memory) : StoreFaults (s.withMem m) a f ↔ StoreFaults s a f :=
  Iff.rfl

/-- A write that fails after one that succeeds: the first changed memory alone. -/
theorem memWrite_after {t : State} {b : Word} {v : Byte} (ht : memWrite s a v = .ok t)
    (h : StoreFaults s b f) (w : Byte) : memWrite t b w = .error f := by
  obtain ⟨m, rfl, -, -⟩ := memWrite_ok ht
  exact memWrite_of_storeFaults ((storeFaults_withMem m).mpr h) w

theorem writeWord_of_first_faults (h : StoreFaults s a f) (v : Word) :
    writeWord s a v = .error f := by
  simp only [writeWord, memWrite_of_storeFaults h]

theorem writeWord_of_second_faults (h : Storable s a) (h' : StoreFaults s (a + 1) f) (v : Word) :
    writeWord s a v = .error f := by
  obtain ⟨t, ht⟩ := memWrite_of_storable h (loByte v)
  simp only [writeWord, ht, memWrite_after ht h']

theorem push16_of_first_faults (h : StoreFaults s (s.sp - 1) f) (v : Word) :
    push16 s v = .error f := by
  simp only [push16, memWrite_of_storeFaults h]

theorem push16_of_second_faults (h : Storable s (s.sp - 1)) (h' : StoreFaults s (s.sp - 2) f)
    (v : Word) : push16 s v = .error f := by
  obtain ⟨t, ht⟩ := memWrite_of_storable h (hiByte v)
  simp only [push16, ht, memWrite_after ht h']

/-! ### A failing read or write inside the shared operations -/

theorem pop16_of_error (h : readWord s s.sp = .error f) : pop16 s = .error f := by
  simp only [pop16, h]

theorem returnSub_of_error (h : readWord s s.sp = .error f) : returnSub s = .fault f :=
  attempt_of_error (by simp only [returnFrom, pop16_of_error h]) _

theorem exchangeStackTop_of_read_error (h : readWord s s.sp = .error f) :
    exchangeStackTop s = .error f := by
  simp only [exchangeStackTop, h]

theorem exchangeStackTop_of_write_error {v : Word} (hr : readWord s s.sp = .ok v)
    (h : writeWord s s.sp (s.pair .HL) = .error f) : exchangeStackTop s = .error f := by
  simp only [exchangeStackTop, hr, h]

theorem callTo_of_error {ret : Word} (h : push16 s ret = .error f) (target : Word) :
    callTo s ret target = .error f := by
  simp only [callTo, h]

/-- INR M and DCR M whose write fails once the byte was read. -/
theorem incOperand_of_write_error (hr : Readable s (s.pair .HL))
    (h : StoreFaults s (s.pair .HL) f) : incOperand .M s = .fault f := by
  obtain ⟨p, hp⟩ := hr
  simp only [incOperand, readOperand, writeOperand, memRead_of_phys hp, attempt_ok,
    memWrite_of_storeFaults h, attempt_error]

theorem decOperand_of_write_error (hr : Readable s (s.pair .HL))
    (h : StoreFaults s (s.pair .HL) f) : decOperand .M s = .fault f := by
  obtain ⟨p, hp⟩ := hr
  simp only [decOperand, readOperand, writeOperand, memRead_of_phys hp, attempt_ok,
    memWrite_of_storeFaults h, attempt_error]

/-! ### The instructions by the access that they make -/

/-- The instructions that read a 16-bit value at `a`. -/
inductive ReadsWordAt (s : State) : Word → Instr → Prop where
  | lhld (a16 : Word) : ReadsWordAt s a16 (.lhld a16)
  | pop (p : PairPsw) : ReadsWordAt s s.sp (Instr.pop p)
  | ret : ReadsWordAt s s.sp .ret
  | xthl : ReadsWordAt s s.sp .xthl
  | rcc (c : Cond) : condTrue c s.flags → ReadsWordAt s s.sp (Instr.rcc c)

theorem ReadsWordAt.exec_of_error {i : Instr} (hi : ReadsWordAt s a i)
    (h : readWord s a = .error f) : exec i s = .fault f := by
  cases hi with
  | lhld => exact attempt_of_error h _
  | pop p =>
    rw [exec_pop]
    exact attempt_of_error (pop16_of_error h) _
  | ret => exact returnSub_of_error h
  | xthl => exact attempt_of_error (exchangeStackTop_of_read_error h) _
  | rcc c hc =>
    rw [exec_rcc, returnIf_taken hc]
    exact returnSub_of_error h

/-- The instructions that write a 16-bit value at `a`, after what they read. -/
inductive WritesWordAt (s : State) : Word → Instr → Prop where
  | shld (a16 : Word) : WritesWordAt s a16 (.shld a16)
  | xthl : Readable s s.sp → Readable s (s.sp + 1) → WritesWordAt s s.sp .xthl

theorem WritesWordAt.exec_of_error {i : Instr} (hi : WritesWordAt s a i)
    (h : writeWord s a (s.pair .HL) = .error f) : exec i s = .fault f := by
  cases hi with
  | shld => exact attempt_of_error h _
  | xthl hr hr' =>
    obtain ⟨v, hv⟩ := readWord_of_readable hr hr'
    exact attempt_of_error (exchangeStackTop_of_write_error hv h) _

/-- The instructions that push a 16-bit value. -/
inductive Pushes (s : State) : Instr → Prop where
  | push (p : PairPsw) : Pushes s (Instr.push p)
  | call (a16 : Word) : Pushes s (.call a16)
  | rst (n : Fin 8) : Pushes s (Instr.rst n)
  | ccc (c : Cond) (a16 : Word) : condTrue c s.flags → Pushes s (Instr.ccc c a16)

theorem Pushes.exec_of_error {i : Instr} (hi : Pushes s i)
    (h : ∀ v, push16 s v = .error f) : exec i s = .fault f := by
  cases hi with
  | push p =>
    rw [exec_push]
    exact attempt_of_error (h _) _
  | call a16 => exact attempt_of_error (callTo_of_error (h _) a16) _
  | rst n =>
    rw [exec_rst]
    exact attempt_of_error (callTo_of_error (h _) (vectorAddress n)) _
  | ccc c a16 hc =>
    rw [exec_ccc, callIf_taken hc]
    exact attempt_of_error (callTo_of_error (h _) a16) _

end Sys2Proof.Machine

namespace Sys2Proof.Proofs

open Sys2Proof.Machine

/-- Settles O57: each instruction attempts its read first; of two reads the first that is out of
range is reported. -/
theorem dataReadFaults : Obligations.DataReadFaults := by
  unfold Obligations.DataReadFaults
  refine fun s => ⟨fun h i hi => ?hl, fun a16 h => ?lda, fun p h => ?ldax, fun a16 i hi => ?word⟩
  case hl =>
    have hread := memRead_of_not_readable h
    rcases hi with ⟨d, rfl⟩ | ⟨op, rfl⟩ | rfl | rfl
    · exact (exec_movRM d s).trans (attempt_of_error hread _)
    · exact (exec_alu op .M s).trans (attempt_of_error hread _)
    · exact (exec_inrM s).trans (attempt_of_error hread _)
    · exact (exec_dcrM s).trans (attempt_of_error hread _)
  case lda => exact attempt_of_error (memRead_of_not_readable h) _
  case ldax => exact (exec_ldax p s).trans (attempt_of_error (memRead_of_not_readable h) _)
  case word =>
    have hreads : ReadsWordAt s a16 i := by
      rcases hi with rfl | ⟨rfl, ⟨p, rfl⟩ | rfl | rfl | ⟨c, rfl, hc⟩⟩
      exacts [.lhld a16, .pop p, .ret, .xthl, .rcc c hc]
    exact ⟨fun h => hreads.exec_of_error (readWord_of_first_not_readable h),
      fun h h' => hreads.exec_of_error (readWord_of_second_not_readable h h')⟩

/-- Settles O58: each instruction attempts its writes after its reads; of two writes the first that
fails is reported. -/
theorem dataWriteFaults : Obligations.DataWriteFaults := by
  unfold Obligations.DataWriteFaults
  refine fun s f => ⟨fun h i hi => ?hl, fun a16 h => ?sta, fun p h => ?stax,
    fun a16 i hi => ?word, fun i hi => ?push⟩
  case hl =>
    rcases hi with ⟨r, rfl⟩ | ⟨d8, rfl⟩ | ⟨hr, rfl | rfl⟩
    · exact (exec_movMR r s).trans (attempt_of_error (memWrite_of_storeFaults h _) _)
    · exact attempt_of_error (memWrite_of_storeFaults h d8) _
    · exact (exec_inrM s).trans (incOperand_of_write_error hr h)
    · exact (exec_dcrM s).trans (decOperand_of_write_error hr h)
  case sta => exact attempt_of_error (memWrite_of_storeFaults h _) _
  case stax => exact (exec_stax p s).trans (attempt_of_error (memWrite_of_storeFaults h _) _)
  case word =>
    have hwrites : WritesWordAt s a16 i := by
      rcases hi with rfl | ⟨rfl, rfl, hr, hr'⟩
      exacts [.shld a16, .xthl hr hr']
    exact ⟨fun h => hwrites.exec_of_error (writeWord_of_first_faults h _),
      fun h h' => hwrites.exec_of_error (writeWord_of_second_faults h h' _)⟩
  case push =>
    have hpushes : Pushes s i := by
      rcases hi with ⟨p, rfl⟩ | ⟨a16, rfl⟩ | ⟨n, rfl⟩ | ⟨c, a16, rfl, hc⟩
      exacts [.push p, .call a16, .rst n, .ccc c a16 hc]
    exact ⟨fun h => hpushes.exec_of_error (push16_of_first_faults h),
      fun h h' => hpushes.exec_of_error (push16_of_second_faults h h')⟩

end Sys2Proof.Proofs
end

section
/-!
PROOFS. The cycle count that a completed step reports (R278, R279).

Every documented instruction is a conditional jump, call or return, or has one cost (`timed`): then
no condition is read and the base cost of its opcode is its row of the standard table. With the cost
of the conditional shapes (`cyclesOf_jcc`, `cyclesOf_ccc`, `cyclesOf_rcc`) that gives the standard
table; an entry of the configuration replaces both costs (`cyclesOf_of_entry`,
`cyclesOf_of_entry_conditional`).
-/

namespace Sys2Proof.Machine

/-! ### Which instructions have one cost -/

/-- The instruction tests no condition, and the base cost of its opcode is `n`. -/
def FixedCost (i : Instr) (n : Nat) : Prop :=
  conditionalCost (opcodeOf i) = none ∧ baseCycles.getD (opcodeOf i).toNat 0 = n

/-- The instruction tests the condition `c`. -/
def TestsCond (c : Cond) (i : Instr) : Prop :=
  ∃ a16, i = Instr.jcc c a16 ∨ i = Instr.ccc c a16 ∨ i = Instr.rcc c

/-- The instruction tests a condition, or has one cost, that of its row of the standard table. -/
def Timed (i : Instr) : Prop :=
  (∃ c, TestsCond c i) ∨ ∃ n, FixedCost i n ∧ ∀ f, StandardCost i f n

/-- The opcode byte of the encoding tests no condition and has the base cost of the row. -/
theorem timed_of_row {i : Instr} {n : Nat} {op : Byte} {operands : List Byte}
    (hrow : ∀ f, StandardCost i f n) (he : encode i = op :: operands)
    (hcond : conditionalCost op = none) (hbase : baseCycles.getD op.toNat 0 = n) : Timed i := by
  have hop : opcodeOf i = op := by rw [opcodeOf, he, List.headD_cons]
  exact .inr ⟨n, ⟨hop ▸ hcond, hop ▸ hbase⟩, hrow⟩

/-- Every documented instruction, shape by shape: its opcode's base cost is its row's. -/
theorem timed (i : Instr) : (∀ op, i ≠ .undocumented op) → Timed i := by
  refine exec_cases (Q := fun i _ => (∀ op, i ≠ .undocumented op) → Timed i) ?undocumented ?movRR
    ?movRM ?movMR ?mviR ?mviM ?lxi ?lda ?sta ?lhld ?shld ?ldax ?stax ?xchg ?sphl ?xthl ?alu ?aluImm
    ?inr ?dcr ?inx ?dcx ?dad ?rlc ?rrc ?ral ?rar ?cma ?stc ?cmc ?daa ?push ?pop ?jmp ?jcc ?pchl
    ?call ?ccc ?ret ?rcc ?rst ?inp ?out ?ei ?di ?hlt ?nop i
  case undocumented => exact fun op h => absurd rfl (h op)
  case jcc => exact fun c a16 _ => .inl ⟨c, a16, .inl rfl⟩
  case ccc => exact fun c a16 _ => .inl ⟨c, a16, .inr (.inl rfl)⟩
  case rcc => exact fun c _ => .inl ⟨c, 0, .inr (.inr rfl)⟩
  case movRR =>
    intro d r _
    cases d <;> cases r <;> exact timed_of_row (.movRR _ _) rfl rfl rfl
  case movRM =>
    intro d _
    cases d <;> exact timed_of_row (.movRM _) rfl rfl rfl
  case movMR =>
    intro r _
    cases r <;> exact timed_of_row (.movMR _) rfl rfl rfl
  case mviR =>
    intro d d8 _
    cases d <;> exact timed_of_row (.mviR _ d8) rfl rfl rfl
  case lxi =>
    intro p d16 _
    rcases p with ⟨_ | _ | _⟩ | _ <;> exact timed_of_row (.lxi _ d16) rfl rfl rfl
  case ldax =>
    intro p _
    cases p <;> exact timed_of_row (.ldax _) rfl rfl rfl
  case stax =>
    intro p _
    cases p <;> exact timed_of_row (.stax _) rfl rfl rfl
  case alu =>
    rintro op (r | _) -
    · cases op <;> cases r <;> exact timed_of_row (.aluR _ _) rfl rfl rfl
    · cases op <;> exact timed_of_row (.aluM _) rfl rfl rfl
  case aluImm =>
    intro op d8 _
    cases op <;> exact timed_of_row (.aluImm _ d8) rfl rfl rfl
  case inr =>
    rintro (r | _) -
    · cases r <;> exact timed_of_row (.inrR _) rfl rfl rfl
    · exact timed_of_row .inrM rfl rfl rfl
  case dcr =>
    rintro (r | _) -
    · cases r <;> exact timed_of_row (.dcrR _) rfl rfl rfl
    · exact timed_of_row .dcrM rfl rfl rfl
  case inx =>
    intro p _
    rcases p with ⟨_ | _ | _⟩ | _ <;> exact timed_of_row (.inx _) rfl rfl rfl
  case dcx =>
    intro p _
    rcases p with ⟨_ | _ | _⟩ | _ <;> exact timed_of_row (.dcx _) rfl rfl rfl
  case dad =>
    intro p _
    rcases p with ⟨_ | _ | _⟩ | _ <;> exact timed_of_row (.dad _) rfl rfl rfl
  case push =>
    intro p _
    rcases p with ⟨_ | _ | _⟩ | _ <;> exact timed_of_row (.push _) rfl rfl rfl
  case pop =>
    intro p _
    rcases p with ⟨_ | _ | _⟩ | _ <;> exact timed_of_row (.pop _) rfl rfl rfl
  case rst =>
    exact fun n _ => match n with
      | 0 | 1 | 2 | 3 | 4 | 5 | 6 | 7 => timed_of_row (.rst _) rfl rfl rfl
  case mviM => exact fun d8 _ => timed_of_row (.mviM d8) rfl rfl rfl
  case lda => exact fun a16 _ => timed_of_row (.lda a16) rfl rfl rfl
  case sta => exact fun a16 _ => timed_of_row (.sta a16) rfl rfl rfl
  case lhld => exact fun a16 _ => timed_of_row (.lhld a16) rfl rfl rfl
  case shld => exact fun a16 _ => timed_of_row (.shld a16) rfl rfl rfl
  case xchg => exact fun _ => timed_of_row .xchg rfl rfl rfl
  case sphl => exact fun _ => timed_of_row .sphl rfl rfl rfl
  case xthl => exact fun _ => timed_of_row .xthl rfl rfl rfl
  case rlc => exact fun _ => timed_of_row .rlc rfl rfl rfl
  case rrc => exact fun _ => timed_of_row .rrc rfl rfl rfl
  case ral => exact fun _ => timed_of_row .ral rfl rfl rfl
  case rar => exact fun _ => timed_of_row .rar rfl rfl rfl
  case cma => exact fun _ => timed_of_row .cma rfl rfl rfl
  case stc => exact fun _ => timed_of_row .stc rfl rfl rfl
  case cmc => exact fun _ => timed_of_row .cmc rfl rfl rfl
  case daa => exact fun _ => timed_of_row .daa rfl rfl rfl
  case jmp => exact fun a16 _ => timed_of_row (.jmp a16) rfl rfl rfl
  case pchl => exact fun _ => timed_of_row .pchl rfl rfl rfl
  case call => exact fun a16 _ => timed_of_row (.call a16) rfl rfl rfl
  case ret => exact fun _ => timed_of_row .ret rfl rfl rfl
  case inp => exact fun p8 _ => timed_of_row (.inp p8) rfl rfl rfl
  case out => exact fun p8 _ => timed_of_row (.out p8) rfl rfl rfl
  case ei => exact fun _ => timed_of_row .ei rfl rfl rfl
  case di => exact fun _ => timed_of_row .di rfl rfl rfl
  case hlt => exact fun _ => timed_of_row .hlt rfl rfl rfl
  case nop => exact fun _ => timed_of_row .nop rfl rfl rfl

/-! ### The standard table -/

/-- With no entry for its opcode, an instruction that tests a condition has the cost of its row. -/
theorem TestsCond.standardCost {cfg : Config} {c : Cond} {i : Instr} (hi : TestsCond c i)
    (h : configuredCycles cfg (opcodeOf i) = none) (f : Flags) :
    StandardCost i f (cyclesOf cfg i f) := by
  obtain ⟨a16, rfl | rfl | rfl⟩ := hi
  · rw [cyclesOf_jcc h]
    exact .jcc c a16 f
  · rw [cyclesOf_ccc h]
    split
    · exact .cccTaken c a16 f ((condHolds_iff c f).mp ‹_›)
    · exact .cccNotTaken c a16 f (mt (condHolds_iff c f).mpr ‹_›)
  · rw [cyclesOf_rcc h]
    split
    · exact .rccTaken c f ((condHolds_iff c f).mp ‹_›)
    · exact .rccNotTaken c f (mt (condHolds_iff c f).mpr ‹_›)

/-- With no entry for its opcode, a documented instruction has the cost of its row. -/
theorem standardCost_of_no_entry {cfg : Config} {i : Instr} (hi : ∀ op, i ≠ .undocumented op)
    (h : ∀ e ∈ cfg.cycles, e.opcode ≠ opcodeOf i) (f : Flags) :
    StandardCost i f (cyclesOf cfg i f) := by
  have hnone := configuredCycles_none h
  rcases timed i hi with ⟨c, htests⟩ | ⟨n, ⟨hcond, hbase⟩, hrow⟩
  · exact htests.standardCost hnone f
  · rw [cyclesOf_base hcond hnone, hbase]
    exact hrow f

/-! ### A configured entry -/

section Entry

variable {cfg : Config} {i : Instr} {e : CycleEntry}

/-- An instruction that tests no condition costs the base cost of its entry. -/
theorem cyclesOf_of_entry (he : configuredCycles cfg (opcodeOf i) = some e)
    (hi : conditionalCost (opcodeOf i) = none) (f : Flags) : cyclesOf cfg i f = e.base := by
  simp only [cyclesOf, hi, baseCost, he]

theorem TestsCond.conditionalCost_eq {c : Cond} (hi : TestsCond c i) :
    ∃ alt, conditionalCost (opcodeOf i) = some (c, alt) := by
  obtain ⟨a16, rfl | rfl | rfl⟩ := hi
  · exact ⟨10, conditionalCost_jcc c a16⟩
  · exact ⟨11, conditionalCost_ccc c a16⟩
  · exact ⟨5, conditionalCost_rcc c⟩

/-- An instruction that tests a condition costs the base cost of its entry when the condition holds,
the alternate cost otherwise. -/
theorem cyclesOf_of_entry_conditional {c : Cond}
    (he : configuredCycles cfg (opcodeOf i) = some e) (hi : TestsCond c i) (f : Flags) :
    (condTrue c f → cyclesOf cfg i f = e.base) ∧ (¬ condTrue c f → cyclesOf cfg i f = e.alt) := by
  obtain ⟨alt, halt⟩ := hi.conditionalCost_eq
  simp only [cyclesOf, halt, baseCost, alternateCost, he]
  exact ⟨fun h => if_pos ((condHolds_iff c f).mpr h), fun h => if_neg (mt (condHolds_iff c f).mp h)⟩

end Entry

/-! ### The report -/

/-- A completed `Step()` executed a documented instruction and reports its count. -/
theorem step_report {s t : State} {i : Instr} (h : step s = .next t)
    (hr : (nextRequest s).1 = .step) (hf : fetch s = .ok i) :
    (∀ op, i ≠ .undocumented op) ∧ t.host.report = some (cyclesOf s.cfg i s.flags) := by
  rcases step_cases h with ⟨-, -, j, u, hf', hu, rfl⟩ | ⟨n, hr', -⟩ | ⟨hr', -⟩
  · cases hf.symm.trans hf'
    refine ⟨?_, rfl⟩
    rintro op rfl
    cases hu
  · cases hr.symm.trans hr'
  · cases hr.symm.trans hr'

end Sys2Proof.Machine

namespace Sys2Proof.Proofs

open Sys2Proof.Machine

/-- Settles O59: the count reported is `cyclesOf` of a documented instruction (`step_report`), which
is its row of the standard table or its entry's. -/
theorem cycleReport : Obligations.CycleReport := by
  unfold Obligations.CycleReport
  refine ⟨fun s t i hr hf h => ?step, fun c i f hi h => standardCost_of_no_entry hi h f⟩
  obtain ⟨hi, hreport⟩ := step_report h hr hf
  refine ⟨_, hreport, fun hno => standardCost_of_no_entry hi hno s.flags,
    fun before e after hc he hbefore => ?entry⟩
  have hentry := configuredCycles_first hc he hbefore
  refine ⟨fun c a16 htests => cyclesOf_of_entry_conditional hentry ⟨a16, htests⟩ s.flags,
    fun hnot => ?fixed⟩
  rcases timed i hi with ⟨c, a16, htests⟩ | ⟨n, ⟨hcond, -⟩, -⟩
  · obtain ⟨hj, hc, hrc⟩ := hnot c a16
    exact absurd htests (by simp [hj, hc, hrc])
  · exact cyclesOf_of_entry hentry hcond s.flags

end Sys2Proof.Proofs
end
